-- ==== Sys2Proof/Word.lean ====
section
/-! DEFINITION. The widths BCE computes with: 32-bit words, bytes, and the 6-bit values of the
radix-64 codec (00_scope R9, 30_encoding R89). -/

namespace Sys2Proof

/-- A word is 32 bits (00_scope R6, R9). -/
abbrev Word := BitVec 32

/-- A byte is 8 bits (00_scope R9). -/
abbrev Byte := BitVec 8

/-- The 6-bit value a radix-64 symbol carries (30_encoding R89). -/
abbrev Sextet := BitVec 6

end Sys2Proof
end

