-- ==== Sys2Proof/Config.lean ====
section
/-! DEFINITION. What the spec leaves to an implementation: the parameter `MODE_2X`, and the free values,
constants without a body, so that no proof can know what they are. -/

namespace Sys2Proof

/-- The named parameter `MODE_2X` (00_scope R6, 92_eei_decisions D10): what `VERSION = 3` means. -/
inductive Mode2x where
  /-- Key bytes are sign-extended when a key word is assembled (30_encoding R86): the spec's default. -/
  | signext
  /-- `VERSION = 3` is a reserved code and raises `ERR_ILLEGAL` subcode 3 (60_exceptions R200). -/
  | refuse
deriving DecidableEq, Repr

/-- The byte buffers whose bytes are unspecified until written (20_memory R69). -/
inductive BufferName where
  | key
  | salt
  | raw
  | sym
deriving DecidableEq, Repr

namespace Config

/-- FREE VALUE. What the bus returns at host read number `draw` wherever the spec calls the value read
unspecified (20_memory R68, R69; 93 U1, U3, U4, U5); a fresh number each read, since two reads may differ. -/
opaque freeReadWord : (draw : Nat) → Word

/-- FREE VALUE. The byte that command number `command` finds at `index` of a buffer where nothing has
written since reset (20_memory R69; 93 U2): fixed for the duration of that command, free for the next. -/
opaque freeOperandByte : (command : Nat) → (buffer : BufferName) → (index : Nat) → Byte

/-- FREE VALUE. Word `index` (0..17 the subkeys, 18 + 256·b + i the table words) of what the completion of
`DERIVE`, command number `command`, leaves in `P` and `S` (41_key_schedule R124; 93 U4). -/
opaque freeCipherWord : (command : Nat) → (index : Nat) → Word

end Config

end Sys2Proof
end

