-- ==== Sys2Proof/Machine/Access.lean ====
section
/-! DEFINITION. What reaches BCE from outside: the host's transactions on the register window, and the
events that a schedule is made of (00_scope R7, 20_memory R60). Also the names of the registers of
20_memory R61. -/

namespace Sys2Proof.Machine

/-- The width of a bus transaction; only `word` is defined by the spec (20_memory R64). -/
inductive Width where
  | byte
  | halfword
  | word
  | burst
deriving DecidableEq, Repr

/-- One transaction of the host, at a byte offset from `BASE` (20_memory R60). -/
inductive Access where
  /-- `RegRead(off)`. -/
  | read (width : Width) (off : Nat)
  /-- `RegWrite(off, v)`. -/
  | write (width : Width) (off : Nat) (v : Word)
deriving DecidableEq, Repr

/-- The width of a transaction. -/
def Access.width : Access → Width
  | .read w _ => w
  | .write w _ _ => w

/-- The byte offset of a transaction from `BASE`. -/
def Access.off : Access → Nat
  | .read _ off => off
  | .write _ off _ => off

/-- What can happen next. -/
inductive Event where
  /-- A transaction of the host (20_memory R60). -/
  | access (a : Access)
  /-- The engine performs one step, that is one phase (41_key_schedule R125). -/
  | engine
  /-- The reset input is asserted and released (70_reset R240, R241). -/
  | reset
deriving DecidableEq, Repr

/-- The registers of the map 20_memory R61. -/
inductive Reg where
  | cmd
  | status
  | errinfo
  | cost
  | version
  | keylen
  | iter
  | seq
  | dataL
  | dataR
  | rawlen
  | symlen
  | saltw (w : Fin 4)
  | digestw (w : Fin 6)
  | keyw (w : Fin 18)
  | p (i : Fin 18)
  | raww (w : Fin 12)
  | symw (w : Fin 16)
  | s (b : Fin 4) (i : Fin 256)
  /-- A reserved offset (R65). -/
  | reserved
deriving DecidableEq, Repr

end Sys2Proof.Machine
end

