-- ==== Sys2Proof/Machine/State.lean ====
section
/-! DEFINITION. The state of one BCE block (10_state R20 to R40), the reasons a step can stop, and the
state after reset. -/

namespace Sys2Proof.Machine

/-- Cipher state: the subkeys `P` (10_state R20) and the substitution tables `S` (R21). -/
structure Cipher where
  p : Vector Word 18
  s : Vector (Vector Word 256) 4
deriving DecidableEq, Repr

/-- Every word of `P` and `S` zero: what `ZEROIZE` leaves (43_system R161). -/
def Cipher.zero : Cipher := ⟨Vector.replicate 18 0#32, Vector.replicate 4 (Vector.replicate 256 0#32)⟩

/-- A byte buffer whose bytes are unspecified until something writes them: `written` says which bytes have
been written since reset (20_memory R69). A byte not written holds a value that nothing can see (log 4, log 5). -/
structure Buffer (n : Nat) where
  bytes : Vector Byte n
  written : Vector Bool n
deriving DecidableEq, Repr

/-- A buffer right after reset: nothing written (10_state R40). -/
def Buffer.unwritten (n : Nat) : Buffer n := ⟨Vector.replicate n 0#8, Vector.replicate n false⟩

/-- A buffer after `ZEROIZE`: every byte written with 0 (43_system R161). -/
def Buffer.zeroed (n : Nat) : Buffer n := ⟨Vector.replicate n 0#8, Vector.replicate n true⟩

/-- The error kinds of `STATUS.ERR` (60_exceptions R200); codes 8..15 are never written. -/
inductive ErrCode where
  | noError
  | config
  | format
  | validation
  | length
  | illegal
  | capacity
  | state
deriving DecidableEq, Repr

/-- The phases of `SEQ.PHASE` (10_state R33); codes 10..15 never occur. -/
inductive Phase where
  | idle
  | pInit
  | pXeks
  | pXkey
  | pXsalt
  | pEnc
  | pMagic
  | pR64e
  | pR64d
  | pZero
deriving DecidableEq, Repr

/-- The state of one BCE block. The fields up to `iter` are the spec's; those after it are the model's own. -/
structure State where
  /-- `P` and `S` (10_state R20, R21). -/
  cipher : Cipher
  /-- `P` and `S` read 0 although `SV = 0`: set by `ZEROIZE`, until the next `INIT` or `DERIVE` (20_memory R69). -/
  cipherZeroed : Bool
  /-- `STATUS.SV` (10_state R22). -/
  sv : Bool
  /-- `STATUS.BUSY` (R31). -/
  busy : Bool
  /-- `STATUS.DONE` (R31). -/
  done : Bool
  /-- `STATUS.ERR` (R31). -/
  err : ErrCode
  /-- `ERRINFO` (R32). -/
  errinfo : Word
  /-- `SEQ.PHASE` (R33). -/
  phase : Phase
  /-- `SEQ.OPC` (R33). -/
  opc : Byte
  /-- `KEY[0..71]` (R23). -/
  key : Buffer 72
  /-- `KEYLEN` (R23). -/
  keylen : Byte
  /-- `SALT[0..15]` (R24). -/
  salt : Buffer 16
  /-- `COST` (R25). -/
  cost : Byte
  /-- `VERSION` (R26). -/
  version : BitVec 3
  /-- `DATA_L` (R27). -/
  dataL : Word
  /-- `DATA_R` (R27). -/
  dataR : Word
  /-- `DIGEST[0..22]` (R28). -/
  digest : Vector Byte 23
  /-- `RAW[0..47]` (R29). -/
  raw : Buffer 48
  /-- `RAWLEN` (R29). -/
  rawlen : Byte
  /-- `SYM[0..63]` (R30). -/
  sym : Buffer 64
  /-- `SYMLEN` (R30). -/
  symlen : Byte
  /-- `ITER` (R34). -/
  iter : Word
  /-- MODEL: the parameter `MODE_2X` as a strap that no step changes (00_scope R6, D10; log 8). -/
  mode2x : Mode2x
  /-- MODEL: the word the latest `RegRead` returned to the host (00_scope R10; log 15). -/
  rdata : Word
  /-- MODEL: what happens next, first event first: host transactions in issue order, engine turns, resets (log 2). -/
  pending : List Event
  /-- MODEL: `false`: a command is one transition; `true`: it is performed phase by phase (41_key_schedule R125; log 1). -/
  stepwise : Bool
  /-- MODEL: number of the next host read, argument of `Config.freeReadWord` (log 5). -/
  readDraws : Nat
  /-- MODEL: number of the command being performed, argument of `Config.freeOperandByte` and
  `Config.freeCipherWord` (log 6, log 7). -/
  cmdDraws : Nat
deriving DecidableEq, Repr

/-- The machine right after reset (10_state R40, 70_reset R240). The zeros of `cipher`, `key`, `salt`, `raw`,
`sym` are the model's (log 3, log 4); the spec leaves those contents unspecified, and no read can see them. -/
def State.reset : State where
  cipher := Cipher.zero
  cipherZeroed := false
  sv := false
  busy := false
  done := false
  err := .noError
  errinfo := 0#32
  phase := .idle
  opc := 0#8
  key := Buffer.unwritten 72
  keylen := 0#8
  salt := Buffer.unwritten 16
  cost := 0#8
  version := 0#3
  dataL := 0#32
  dataR := 0#32
  digest := Vector.replicate 23 0#8
  raw := Buffer.unwritten 48
  rawlen := 0#8
  sym := Buffer.unwritten 64
  symlen := 0#8
  iter := 0#32
  mode2x := .signext
  rdata := 0#32
  pending := []
  stepwise := false
  readDraws := 0
  cmdDraws := 0

/-- Why the machine stops with a fault. -/
inductive Fault where
  /-- The host's transaction at byte offset `off` is outside the window 0x0000..0x1FFF: "Offsets outside the window
  are not BCE's" (20_memory R65). Raised by `State.hostAccess`. Safe: the model stops where another device answers. -/
  | outsideWindow (off : Nat)
deriving DecidableEq, Repr

/-- Why the model gives no meaning to a step. -/
inductive Refusal where
  /-- The instruction has no meaning yet. Raised by no arm of `exec`. Safe. -/
  | notModelled (mnemonic : String)
  /-- A transaction inside the window that is not one aligned 32-bit word: "not defined by this spec: what it does is
  left to the platform's bus bridge"; "a model refuses it" (20_memory R64, 93 U6). Raised by `State.hostAccess`. Safe. -/
  | undefinedTransaction (width : Width) (off : Nat)
deriving DecidableEq, Repr

end Sys2Proof.Machine
end

