-- ==== Sys2Proof/Machine/Operands.lean ====
section
/-! DEFINITION. How the operands of the commands are read: byte order (30_encoding R85), byte buffers (20_memory
R62, R69), key words (R86), salt words (R87), the iteration count (R88) and the radix-64 group layout (R89). -/

namespace Sys2Proof.Machine

/-- `BE32(b0, b1, b2, b3)`: the first byte is the most significant (30_encoding R85). -/
def be32 (b0 b1 b2 b3 : Byte) : Word :=
  (b0.setWidth 32 <<< 24) ||| (b1.setWidth 32 <<< 16) ||| (b2.setWidth 32 <<< 8) ||| b3.setWidth 32

/-- Byte `n` of a word, 0 the most significant: bits `31-8n : 24-8n` (20_memory R62, 30_encoding R85). -/
def wordByte (w : Word) (n : Nat) : Byte := w.extractLsb' (24 - 8 * n) 8

/-- The four bytes of a word in order (30_encoding R85). -/
def wordBytes (w : Word) : List Byte := [wordByte w 0, wordByte w 1, wordByte w 2, wordByte w 3]

/-- Byte `i` of a buffer: the stored byte if something has written it since reset, the free byte otherwise
(20_memory R69). -/
def Buffer.read {n : Nat} (buf : Buffer n) (free : Nat → Byte) (i : Nat) : Byte :=
  if buf.written[i]?.getD false then buf.bytes[i]?.getD 0#8 else free i

/-- Writing byte `i` of a buffer. -/
def Buffer.put {n : Nat} (buf : Buffer n) (i : Nat) (b : Byte) : Buffer n :=
  ⟨buf.bytes.setIfInBounds i b, buf.written.setIfInBounds i true⟩

/-- Writing bytes `i, i+1, ...` of a buffer in order. -/
def Buffer.putFrom {n : Nat} (buf : Buffer n) (i : Nat) : List Byte → Buffer n
  | [] => buf
  | b :: bs => (buf.put i b).putFrom (i + 1) bs

/-- `RegWrite` of word register `w` of a buffer writes all four bytes (20_memory R62). -/
def Buffer.putWord {n : Nat} (buf : Buffer n) (w : Nat) (v : Word) : Buffer n :=
  buf.putFrom (4 * w) (wordBytes v)

/-- `RegRead` of word register `w` of a buffer: byte `4w + n` is bits `31-8n : 24-8n` (20_memory R62); an unwritten
byte is that byte of the free word (R69). -/
def Buffer.word {n : Nat} (buf : Buffer n) (free : Word) (w : Nat) : Word :=
  let byte (n : Nat) : Byte := buf.read (fun _ => wordByte free n) (4 * w + n)
  be32 (byte 0) (byte 1) (byte 2) (byte 3)

/-- The first `n` bytes of a buffer, as a command sees them. -/
def Buffer.take {m : Nat} (buf : Buffer m) (free : Nat → Byte) (n : Nat) : List Byte :=
  (List.range n).map (buf.read free)

/-- The key `KEY[0..KEYLEN-1]` (10_state R23). -/
def State.keyBytes (s : State) : List Byte :=
  s.key.take (Config.freeOperandByte s.cmdDraws .key) s.keylen.toNat

/-- The salt `SALT[0..15]` (10_state R24). -/
def State.saltBytes (s : State) : List Byte :=
  s.salt.take (Config.freeOperandByte s.cmdDraws .salt) 16

/-- The raw bytes `RAW[0..RAWLEN-1]` (10_state R29). -/
def State.rawBytes (s : State) : List Byte :=
  s.raw.take (Config.freeOperandByte s.cmdDraws .raw) s.rawlen.toNat

/-- The symbols `SYM[0..SYMLEN-1]` (10_state R30). -/
def State.symBytes (s : State) : List Byte :=
  s.sym.take (Config.freeOperandByte s.cmdDraws .sym) s.symlen.toNat

/-- How key bytes are assembled into words (30_encoding R84, R86). -/
inductive KeyMode where
  | literal
  | signed
deriving DecidableEq, Repr

/-- The assembly mode of a version code: signed for code 3, `2x`, literal otherwise (30_encoding R84). -/
def keyModeOf (version : BitVec 3) : KeyMode := if version = 3#3 then .signed else .literal

/-- A key byte extended to 32 bits: `zext_32` or `sext_32` (30_encoding R86, 00_scope R10). -/
def KeyMode.extend : KeyMode → Byte → Word
  | .literal, b => b.setWidth 32
  | .signed, b => b.signExtend 32

/-- One turn of the loop of `KeyWord` on the pair (word so far, cursor) (30_encoding R86). -/
def keyWordStep (mode : KeyMode) (kb : List Byte) (wj : Word × Nat) : Word × Nat :=
  ((wj.1 <<< 8) ||| mode.extend (kb.getD wj.2 0#8), (wj.2 + 1) % kb.length)

/-- `KeyWord(kb, n, j, mode)` with `n` the length of `kb`: the word and the new cursor (30_encoding R86). -/
def keyWord (mode : KeyMode) (kb : List Byte) (j : Nat) : Word × Nat :=
  Nat.iterate (keyWordStep mode kb) 4 (0#32, j)

/-- `SALTW[w]` of the salt bytes (30_encoding R87). -/
def saltWord (salt : List Byte) (w : Nat) : Word :=
  be32 (salt.getD (4 * w) 0#8) (salt.getD (4 * w + 1) 0#8) (salt.getD (4 * w + 2) 0#8) (salt.getD (4 * w + 3) 0#8)

/-- The four salt words (30_encoding R87). -/
def saltWords (salt : List Byte) : Vector Word 4 :=
  #v[saltWord salt 0, saltWord salt 1, saltWord salt 2, saltWord salt 3]

/-- The four zero words of the unsalted key expansion (40_cipher_core R102 (e)). -/
def noSalt : Vector Word 4 := #v[0#32, 0#32, 0#32, 0#32]

/-- `Rounds(COST) = 2^COST` (30_encoding R88). -/
def rounds (cost : Byte) : Nat := 2 ^ cost.toNat

/-- A 6-bit value made of a high field and a low field of `k` bits (30_encoding R89, the `‖` of 00_scope R9). -/
def joinFields {m n : Nat} (k : Nat) (hi : BitVec m) (lo : BitVec n) : Sextet :=
  (hi.setWidth 6 <<< k) ||| lo.setWidth 6

/-- The 6-bit values of raw bytes, group by group, bits cut from the top, a trailing group zero-filled
(30_encoding R89). -/
def groupValues : List Byte → List Sextet
  | [] => []
  | [b0] => [b0.extractLsb' 2 6, joinFields 4 (b0.extractLsb' 0 2) 0#4]
  | [b0, b1] =>
    [b0.extractLsb' 2 6, joinFields 4 (b0.extractLsb' 0 2) (b1.extractLsb' 4 4), joinFields 2 (b1.extractLsb' 0 4) 0#2]
  | b0 :: b1 :: b2 :: rest =>
    b0.extractLsb' 2 6 :: joinFields 4 (b0.extractLsb' 0 2) (b1.extractLsb' 4 4)
      :: joinFields 2 (b1.extractLsb' 0 4) (b2.extractLsb' 6 2) :: b2.extractLsb' 0 6 :: groupValues rest

end Sys2Proof.Machine
end

