-- ==== Sys2Proof/Machine/Cipher.lean ====
section
/-! DEFINITION. The functions of the cipher: `F` (40_cipher_core R100), `EncryptBlock` (R101), `ExpandKey`
(R102). All arithmetic is on 32-bit unsigned words, addition modulo 2^32 (R108). -/

namespace Sys2Proof.Machine

/-- `P[i]`. -/
def Cipher.subkey (c : Cipher) (i : Nat) : Word := c.p[i]?.getD 0#32

/-- `S[b][i]`: the index of a table is one byte, so no lookup is out of range (20_memory R74). -/
def Cipher.table (c : Cipher) (b : Fin 4) (i : Byte) : Word := c.s[b][i.toNat]'i.isLt

/-- `P[i] <- v`. -/
def Cipher.setSubkey (c : Cipher) (i : Nat) (v : Word) : Cipher := { c with p := c.p.setIfInBounds i v }

/-- `S[b][i] <- v`. -/
def Cipher.setTable (c : Cipher) (b : Fin 4) (i : Nat) (v : Word) : Cipher :=
  { c with s := c.s.set b (c.s[b].setIfInBounds i v) }

/-- The round function `F(S, x)`: add, exclusive-or, add; the most significant byte indexes table 0 (R100). -/
def Cipher.f (c : Cipher) (x : Word) : Word :=
  ((c.table 0 (wordByte x 0) + c.table 1 (wordByte x 1)) ^^^ c.table 2 (wordByte x 2)) + c.table 3 (wordByte x 3)

/-- Round `i` of `EncryptBlock` with the swap at its end, on the pair `(L, R)` (R101). -/
def Cipher.round (c : Cipher) (lr : Word × Word) (i : Nat) : Word × Word :=
  let l := lr.1 ^^^ c.subkey i
  (lr.2 ^^^ c.f l, l)

/-- `EncryptBlock(P, S, L, R)` on the pair `(L, R)`: 16 rounds, the last swap undone, `P[16]` into the right half and
`P[17]` into the left (R101). -/
@[irreducible] def Cipher.encryptBlock (c : Cipher) (lr : Word × Word) : Word × Word :=
  let lr := (List.range 16).foldl c.round lr
  (lr.2 ^^^ c.subkey 17, lr.1 ^^^ c.subkey 16)

/-- Step 1 of `ExpandKey`: the key words, taken cyclically with a running cursor, are exclusive-ored into the current
subkeys (R102 (a)). -/
def mixKey (mode : KeyMode) (kb : List Byte) (c : Cipher) : Cipher :=
  ((List.range 18).foldl (fun (cj : Cipher × Nat) i =>
    let wj := keyWord mode kb cj.2
    (cj.1.setSubkey i (cj.1.subkey i ^^^ wj.1), wj.2)) (c, 0)).1

/-- The working values of step 2 of `ExpandKey` (10_state R36): the cipher state as refilled so far, the chained block
`(L, R)` and the salt counter `t`. -/
structure Refill where
  cipher : Cipher
  block : Word × Word
  t : Nat

/-- One turn of the refill: the salt pair of step `t` into the running block, one encryption with the state as it is at
this moment, `t` counted on (R102 (b), (c), (f)). -/
def Refill.encrypt (sw : Vector Word 4) (r : Refill) : Refill :=
  { r with
    block := r.cipher.encryptBlock
      (r.block.1 ^^^ sw[2 * r.t % 4]?.getD 0#32, r.block.2 ^^^ sw[(2 * r.t + 1) % 4]?.getD 0#32)
    t := r.t + 1 }

/-- The refill of `P[i]` and `P[i+1]` (R102). -/
def Refill.subkeys (sw : Vector Word 4) (r : Refill) (i : Nat) : Refill :=
  let r := r.encrypt sw
  { r with cipher := (r.cipher.setSubkey i r.block.1).setSubkey (i + 1) r.block.2 }

/-- The refill of `S[b][i]` and `S[b][i+1]` (R102). -/
def Refill.tableWords (sw : Vector Word 4) (b : Fin 4) (r : Refill) (i : Nat) : Refill :=
  let r := r.encrypt sw
  { r with cipher := (r.cipher.setTable b i r.block.1).setTable b (i + 1) r.block.2 }

/-- The indices `0, 2, ..., 2(n-1)` of a loop with step 2. -/
def evens (n : Nat) : List Nat := (List.range n).map (2 * ·)

/-- Step 2 of `ExpandKey`: the chain starts from the all-zero block and refills `P`, then `S[0]` to `S[3]`, two words
per encryption, 521 encryptions in all (R102 (b), (d)). -/
def refillAll (sw : Vector Word 4) (c : Cipher) : Cipher :=
  let afterP := (evens 9).foldl (Refill.subkeys sw) ⟨c, (0#32, 0#32), 0⟩
  (([0, 1, 2, 3] : List (Fin 4)).foldl (fun r b => (evens 128).foldl (Refill.tableWords sw b) r) afterP).cipher

/-- `ExpandKey(P, S, sw, kb, n, mode)` (R102). -/
@[irreducible] def expandKey (sw : Vector Word 4) (mode : KeyMode) (kb : List Byte) (c : Cipher) : Cipher :=
  refillAll sw (mixKey mode kb c)

end Sys2Proof.Machine
end

