-- ==== Sys2Proof/Syntax.lean ====
section
/-! DEFINITION. BCE's eleven commands, one constructor per row of the opcode map (30_encoding R81).
A command word has no operand field (R80), so no constructor has an argument. -/

namespace Sys2Proof

/-- The commands of 30_encoding R81, in the order of the opcode map. -/
inductive Instr where
  /-- Load the standard constants into the cipher state (40_cipher_core R103). -/
  | init
  /-- Unsalted key expansion with the key buffer (R104). -/
  | xkey
  /-- Unsalted key expansion with the salt as key bytes (R105). -/
  | xsalt
  /-- Salted key expansion (R106). -/
  | xeks
  /-- Encrypt one block (R107). -/
  | encblk
  /-- Digest from the present cipher state (41_key_schedule R123). -/
  | magic
  /-- The whole of `deriveDigest` (R124). -/
  | derive
  /-- Radix-64 encode the raw buffer (42_radix64 R142). -/
  | r64enc
  /-- Radix-64 decode the symbol buffer (R143). -/
  | r64dec
  /-- Clear the latched error (43_system R160). -/
  | clrerr
  /-- Erase everything a call leaves behind (R161). -/
  | zeroize
deriving DecidableEq, Repr

end Sys2Proof
end

