-- ==== Sys2Proof/Decode.lean ====
section
/-! DEFINITION. Decoding a command word, the 32-bit value written to `CMD` (30_encoding R80 to R83), and
after it the encoder. There is no instruction memory and so no fetch byte order (20_memory R63, R72): the
bus carries the word whole. -/

namespace Sys2Proof

/-- Why a word is not a command (30_encoding R83). -/
inductive DecodeError where
  /-- Bits 31:8 are not zero (R83 (b)): `ERR_ILLEGAL` subcode 2. -/
  | highBitsNotZero
  /-- `OPC` is not in the opcode map (R83 (a)): `ERR_ILLEGAL` subcode 1. -/
  | unknownOpcode
deriving DecidableEq, Repr

/-- The field `OPC`, bits 7:0 of a command word (30_encoding R80). -/
def opcField (w : Word) : Byte := w.extractLsb' 0 8

/-- The field `ZERO`, bits 31:8 of a command word (30_encoding R80). -/
def zeroField (w : Word) : BitVec 24 := w.extractLsb' 8 24

/-- The opcode map of 30_encoding R81, read from opcode to command. -/
def instrOfOpcode (op : Byte) : Option Instr :=
  if op = 0x01#8 then some .init
  else if op = 0x02#8 then some .xkey
  else if op = 0x03#8 then some .xsalt
  else if op = 0x04#8 then some .xeks
  else if op = 0x05#8 then some .encblk
  else if op = 0x06#8 then some .magic
  else if op = 0x08#8 then some .derive
  else if op = 0x10#8 then some .r64enc
  else if op = 0x11#8 then some .r64dec
  else if op = 0x20#8 then some .clrerr
  else if op = 0x21#8 then some .zeroize
  else none

/-- Decoding a command word; `ZERO` is examined before `OPC` (30_encoding R82, R83; 60_exceptions R211). -/
def decode (w : Word) : Except DecodeError Instr :=
  if zeroField w = 0#24 then
    match instrOfOpcode (opcField w) with
    | some i => .ok i
    | none => .error .unknownOpcode
  else .error .highBitsNotZero

/-- The opcode of a command (30_encoding R81). -/
def opcode : Instr → Byte
  | .init => 0x01#8
  | .xkey => 0x02#8
  | .xsalt => 0x03#8
  | .xeks => 0x04#8
  | .encblk => 0x05#8
  | .magic => 0x06#8
  | .derive => 0x08#8
  | .r64enc => 0x10#8
  | .r64dec => 0x11#8
  | .clrerr => 0x20#8
  | .zeroize => 0x21#8

/-- The command word of a command: `ZERO` then `OPC` (30_encoding R80). -/
def encode (i : Instr) : Word := (opcode i).setWidth 32

/-- The host's table reader: the command that the decoder reads from the `nbits` bits of `w`, the bits of
the command word above them zero; `none` where the decoder rejects the word. -/
def decodeTableWord (nbits w : Nat) : Option Instr :=
  if w < 2 ^ nbits ∧ w < 2 ^ 32 then
    match decode (BitVec.ofNat 32 w) with
    | .ok i => some i
    | .error _ => none
  else none

end Sys2Proof
end

