-- ==== Sys2Proof/Machine/Flags.lean ====
section
/-! DEFINITION. BCE's status registers as the host reads them: `STATUS`, `SEQ`, `ERRINFO` (10_state R31 to R33,
60_exceptions R200). No command's data result sets a flag (R31). -/

namespace Sys2Proof.Machine

/-- The 4-bit code of an error kind in `STATUS.ERR` (60_exceptions R200). -/
def ErrCode.code : ErrCode → BitVec 4
  | .noError => 0#4
  | .config => 1#4
  | .format => 2#4
  | .validation => 3#4
  | .length => 4#4
  | .illegal => 5#4
  | .capacity => 6#4
  | .state => 7#4

/-- The 4-bit code of a phase in `SEQ.PHASE` (10_state R33). -/
def Phase.code : Phase → BitVec 4
  | .idle => 0#4
  | .pInit => 1#4
  | .pXeks => 2#4
  | .pXkey => 3#4
  | .pXsalt => 4#4
  | .pEnc => 5#4
  | .pMagic => 6#4
  | .pR64e => 7#4
  | .pR64d => 8#4
  | .pZero => 9#4

/-- `STATUS`: bits 31:8 zero, 7:4 `ERR`, 3 zero, 2 `SV`, 1 `DONE`, 0 `BUSY` (10_state R31). -/
def State.statusWord (s : State) : Word :=
  (s.err.code.setWidth 32 <<< 4) ||| ((BitVec.ofBool s.sv).setWidth 32 <<< 2)
    ||| ((BitVec.ofBool s.done).setWidth 32 <<< 1) ||| (BitVec.ofBool s.busy).setWidth 32

/-- `SEQ`: bits 31:16 zero, 15:8 `OPC`, 7:4 zero, 3:0 `PHASE` (10_state R33). -/
def State.seqWord (s : State) : Word := (s.opc.setWidth 32 <<< 8) ||| s.phase.code.setWidth 32

/-- `ERRINFO`: bits 31:24 subcode, 23:16 opcode byte of the failing write, 15:0 detail (60_exceptions R200). -/
def errinfoWord (subcode op : Byte) (detail : BitVec 16) : Word :=
  (subcode.setWidth 32 <<< 24) ||| (op.setWidth 32 <<< 16) ||| detail.setWidth 32

end Sys2Proof.Machine
end

