-- ==== Sys2Proof/Machine/Ops.lean ====
section
/-! DEFINITION. The operations all commands share: the checks made at acceptance in their order (60_exceptions
R211), taking an error (R210) and the return from it (43_system R160), acceptance and completion (30_encoding R82). -/

namespace Sys2Proof.Machine

/-- What an error reports besides the opcode byte: its kind, subcode and detail (60_exceptions R200). -/
structure ErrorReport where
  code : ErrCode
  subcode : Byte
  detail : BitVec 16
deriving DecidableEq, Repr

/-- The commands that read `VERSION` and the key: `XKEY`, `XEKS`, `DERIVE` (30_encoding R83 (c), 60_exceptions R200). -/
def readsKey : Instr → Bool
  | .init => false
  | .xkey => true
  | .xsalt => false
  | .xeks => true
  | .encblk => false
  | .magic => false
  | .derive => true
  | .r64enc => false
  | .r64dec => false
  | .clrerr => false
  | .zeroize => false

/-- The commands that read the cipher state: `XKEY`, `XSALT`, `XEKS`, `ENCBLK`, `MAGIC` (10_state R22). -/
def readsCipher : Instr → Bool
  | .init => false
  | .xkey => true
  | .xsalt => true
  | .xeks => true
  | .encblk => true
  | .magic => true
  | .derive => false
  | .r64enc => false
  | .r64dec => false
  | .clrerr => false
  | .zeroize => false

/-- A reserved `VERSION` code: 5, 6, 7, and 3 under `MODE_2X = refuse` (30_encoding R83 (c), R84; 60_exceptions R200). -/
def State.versionReserved (s : State) : Bool :=
  decide (4#3 < s.version) || (decide (s.version = 3#3) && decide (s.mode2x = .refuse))

/-- `COST` outside 4..31 (60_exceptions R201). -/
def State.costOutOfRange (s : State) : Bool := decide (s.cost < 4#8) || decide (31#8 < s.cost)

/-- The lowest index `i` at which a symbol code is not in the alphabet, counted from `start` (60_exceptions R202). -/
def firstBadSymbol (start : Nat) : List Byte → Option Nat
  | [] => none
  | c :: cs => if (inv c).isNone then some start else firstBadSymbol (start + 1) cs

/-- The checks of one command in the order of 60_exceptions R211, orders 5 to 12: the first that applies. -/
def precheck (i : Instr) (s : State) : Option ErrorReport :=
  if readsKey i && s.versionReserved then some ⟨.illegal, 3#8, s.version.setWidth 16⟩
  else if readsCipher i && !s.sv then some ⟨.state, 1#8, 0#16⟩
  else if readsKey i && decide (s.keylen = 0#8) then some ⟨.validation, 1#8, 0#16⟩
  else if readsKey i && decide (72#8 < s.keylen) then some ⟨.length, 1#8, s.keylen.setWidth 16⟩
  else if decide (i = .derive) && s.costOutOfRange then some ⟨.config, 1#8, s.cost.setWidth 16⟩
  else if decide (i = .r64enc) && decide (48#8 < s.rawlen) then some ⟨.capacity, 1#8, s.rawlen.setWidth 16⟩
  else if decide (i = .r64dec) then
    if 64#8 < s.symlen then some ⟨.capacity, 2#8, s.symlen.setWidth 16⟩
    else if s.symlen.toNat % 4 = 1 then some ⟨.format, 2#8, s.symlen.setWidth 16⟩
    else (firstBadSymbol 0 s.symBytes).map fun index => ⟨.format, 1#8, BitVec.ofNat 16 index⟩
  else none

/-- TAKING AN ERROR, the one exception entry of BCE: `STATUS.ERR`, `ERRINFO` and `STATUS.DONE` are written and nothing
else changes (60_exceptions R210). `op` is the opcode byte of the failing write. -/
def State.raise (s : State) (op : Byte) (r : ErrorReport) : State :=
  { s with err := r.code, errinfo := errinfoWord r.subcode op r.detail, done := false }

/-- THE RETURN from the latched error, the effect of `CLRERR` (43_system R160, 60_exceptions R212). -/
def State.clearError (s : State) : State :=
  { s with err := .noError, errinfo := 0#32, done := false, opc := opcode .clrerr }

/-- The engine writes the cipher state (20_memory R70 (c)). -/
def State.withCipher (s : State) (c : Cipher) : State := { s with cipher := c }

/-- The engine writes `DATA_L` and `DATA_R`. -/
def State.withData (s : State) (lr : Word × Word) : State := { s with dataL := lr.1, dataR := lr.2 }

/-- The engine writes `DIGEST`. -/
def State.withDigest (s : State) (d : Vector Byte 23) : State := { s with digest := d }

/-- The engine writes `ITER`. -/
def State.withIter (s : State) (n : Word) : State := { s with iter := n }

/-- The engine writes symbols `SYM[0..m-1]` and `SYMLEN <- m`; the rest of `SYM` keeps its contents (42_radix64 R142). -/
def State.withSymbols (s : State) (out : List Byte) : State :=
  { s with sym := s.sym.putFrom 0 out, symlen := BitVec.ofNat 8 out.length }

/-- The engine writes bytes `RAW[0..k-1]` and `RAWLEN <- k`; the rest of `RAW` keeps its contents (42_radix64 R143). -/
def State.withRawBytes (s : State) (out : List Byte) : State :=
  { s with raw := s.raw.putFrom 0 out, rawlen := BitVec.ofNat 8 out.length }

/-- MODEL: a `CMD` write that is not ignored gets a number of its own for its free values (log 6). -/
def State.newDraw (s : State) : State := { s with cmdDraws := s.cmdDraws + 1 }

/-- The first phase of a command (41_key_schedule R125); `CLRERR` has none. -/
def firstPhase : Instr → Phase
  | .init => .pInit
  | .xkey => .pXkey
  | .xsalt => .pXsalt
  | .xeks => .pXeks
  | .encblk => .pEnc
  | .magic => .pMagic
  | .derive => .pInit
  | .r64enc => .pR64e
  | .r64dec => .pR64d
  | .clrerr => .idle
  | .zeroize => .pZero

/-- Acceptance of a command: `DONE <- 0`, `BUSY <- 1`, `SEQ.OPC`, first phase (30_encoding R82). -/
def State.accept (s : State) (i : Instr) : State :=
  { s with done := false, busy := true, opc := opcode i, phase := firstPhase i }

/-- Completion of a command: `SEQ.PHASE <- IDLE`, `BUSY <- 0`, `DONE <- 1` (30_encoding R82). -/
def State.finish (s : State) : State := { s with phase := .idle, busy := false, done := true }

/-- The sequencer goes to the next phase of the same command (41_key_schedule R125). -/
def State.goTo (s : State) (p : Phase) : State := { s with phase := p }

/-- A write of an accepted-or-not command to `CMD` (30_encoding R82): ignored while the engine is busy or an error is
latched (60_exceptions R211 orders 1 and 2, R212); an error if a check fails; else accepted, and `work` follows. -/
def State.offer (s : State) (i : Instr) (work : State → State) : State :=
  if s.busy then s
  else if s.err ≠ .noError then s
  else match precheck i s.newDraw with
    | some r => s.newDraw.raise (opcode i) r
    | none => work (s.newDraw.accept i)

/-- The same for `ZEROIZE`, which is accepted also while an error is latched and cannot fail (43_system R161). The latch
is cleared with the acceptance, since `ERR != 0` implies `BUSY = 0` (10_state R31; log 9). -/
def State.offerZeroize (s : State) (work : State → State) : State :=
  if s.busy then s
  else work { s.newDraw.accept .zeroize with err := .noError, errinfo := 0#32 }

/-- A write of a word that is no command (30_encoding R82, R83; 60_exceptions R211 orders 1 to 4): ignored while busy or
an error is latched, else `ERR_ILLEGAL`. -/
def State.illegalCommand (s : State) (w : Word) (e : DecodeError) : State :=
  if s.busy then s
  else if s.err ≠ .noError then s
  else match e with
    | .highBitsNotZero => s.newDraw.raise (opcField w) ⟨.illegal, 2#8, w.extractLsb' 8 16⟩
    | .unknownOpcode => s.newDraw.raise (opcField w) ⟨.illegal, 1#8, 0#16⟩

end Sys2Proof.Machine
end

