-- ==== Sys2Proof/Machine/CipherCore.lean ====
section
/-! DEFINITION. The cipher core commands: `INIT`, `XKEY`, `XSALT`, `XEKS`, `ENCBLK` (40_cipher_core R103 to R107).
Each `…Work` is what the command's phase does to an accepted state; each `exec…` is the whole command. -/

namespace Sys2Proof.Machine

/-- Phase `P_INIT`: `P <- P_INIT`, `S <- S_INIT` (R103; 41_key_schedule R122). -/
def State.loadConstants (s : State) : State := { s with cipher := Cipher.initial, cipherZeroed := false }

/-- What `INIT` does: the constants, and `SV <- 1` (R103). -/
def State.initWork (s : State) : State := { s.loadConstants with sv := true }

/-- Phase `P_XKEY`: the unsalted expansion with the key (R104). -/
def State.xkeyWork (s : State) : State :=
  s.withCipher (expandKey noSalt (keyModeOf s.version) s.keyBytes s.cipher)

/-- Phase `P_XSALT`: the unsalted expansion with the salt as key bytes, always literal (R105). -/
def State.xsaltWork (s : State) : State :=
  s.withCipher (expandKey noSalt .literal s.saltBytes s.cipher)

/-- Phase `P_XEKS`: the salted expansion with the key (R106). -/
def State.xeksWork (s : State) : State :=
  s.withCipher (expandKey (saltWords s.saltBytes) (keyModeOf s.version) s.keyBytes s.cipher)

/-- Phase `P_ENC`: the data block is replaced by its encryption (R107). -/
def State.encblkWork (s : State) : State := s.withData (s.cipher.encryptBlock (s.dataL, s.dataR))

/-- `INIT` (R103). -/
def execInit (s : State) : Host.Outcome State Fault Refusal :=
  .next (s.offer .init fun s => s.initWork.finish)

/-- `XKEY` (R104). -/
def execXkey (s : State) : Host.Outcome State Fault Refusal :=
  .next (s.offer .xkey fun s => s.xkeyWork.finish)

/-- `XSALT` (R105). -/
def execXsalt (s : State) : Host.Outcome State Fault Refusal :=
  .next (s.offer .xsalt fun s => s.xsaltWork.finish)

/-- `XEKS` (R106). -/
def execXeks (s : State) : Host.Outcome State Fault Refusal :=
  .next (s.offer .xeks fun s => s.xeksWork.finish)

/-- `ENCBLK` (R107). -/
def execEncblk (s : State) : Host.Outcome State Fault Refusal :=
  .next (s.offer .encblk fun s => s.encblkWork.finish)

end Sys2Proof.Machine
end

