-- ==== Sys2Proof/Machine/KeySchedule.lean ====
section
/-! DEFINITION. The key-schedule engine: `MagicEncrypt` (41_key_schedule R121), `EksSetup` (R122), and the commands
`MAGIC` (R123) and `DERIVE` (R124). -/

namespace Sys2Proof.Machine

/-- One block of the constant, encrypted 64 times, as 8 big-endian bytes (R121). -/
def magicBlock (c : Cipher) (lr : Word × Word) : List Byte :=
  let lr := Nat.iterate c.encryptBlock 64 lr
  wordBytes lr.1 ++ wordBytes lr.2

/-- `MagicEncrypt(P, S)`: the 24 bytes of the three encrypted blocks, block after block (R121). -/
def magicEncrypt (c : Cipher) : List Byte := magicBlocks.flatMap (magicBlock c)

/-- The digest: the first 23 of the 24 bytes (R121, R123; 10_state R28). -/
@[irreducible] def digestOf (c : Cipher) : Vector Byte 23 := Vector.ofFn fun i => (magicEncrypt c).getD i 0#8

/-- One pass of the cost loop: the unsalted expansions with the key, then with the salt (R122). -/
def eksPass (mode : KeyMode) (kb salt : List Byte) (c : Cipher) : Cipher :=
  expandKey noSalt .literal salt (expandKey noSalt mode kb c)

/-- `EksSetup(P, S, kb, n, mode, salt, cost)`: the constants, one salted expansion with the key, then `2^cost` passes
(R122; 90_conflicts C3). The earlier cipher state is not read. -/
@[irreducible] def eksSetup (mode : KeyMode) (kb salt : List Byte) (cost : Byte) : Cipher :=
  Nat.iterate (eksPass mode kb salt) (rounds cost) (expandKey (saltWords salt) mode kb Cipher.initial)

/-- What `DERIVE` leaves in `P` and `S`: unspecified, so free words (R124; 93 U4; log 7). -/
@[irreducible] def freeCipher (command : Nat) : Cipher where
  p := Vector.ofFn fun i => Config.freeCipherWord command i
  s := Vector.ofFn fun b => Vector.ofFn fun i => Config.freeCipherWord command (18 + 256 * b + i)

/-- Phase `P_MAGIC`: the digest of the present cipher state, which is not changed (R123). -/
def State.magicWork (s : State) : State := s.withDigest (digestOf s.cipher)

/-- The end of `DERIVE`: `SV <- 0`, and `P` and `S` become unspecified (R124). -/
def State.discardCipher (s : State) : State := { s.withCipher (freeCipher s.cmdDraws) with sv := false }

/-- What `DERIVE` does once accepted: `EksSetup`, `ITER` counted to `2^COST`, the digest, the cipher state discarded
(R124; 10_state R34). -/
def State.deriveWork (s : State) : State :=
  let c := eksSetup (keyModeOf s.version) s.keyBytes s.saltBytes s.cost
  ((s.loadConstants.withCipher c).withIter (BitVec.ofNat 32 (rounds s.cost))).magicWork.discardCipher

/-- `MAGIC` (R123). -/
def execMagic (s : State) : Host.Outcome State Fault Refusal :=
  .next (s.offer .magic fun s => s.magicWork.finish)

/-- `DERIVE` (R124). -/
def execDerive (s : State) : Host.Outcome State Fault Refusal :=
  .next (s.offer .derive fun s => s.deriveWork.finish)

end Sys2Proof.Machine
end

