-- ==== Sys2Proof/Machine/Radix64.lean ====
section
/-! DEFINITION. The radix-64 codec: the functions `R64Encode` (42_radix64 R140) and `R64Decode` (R141), and the commands
`R64ENC` (R142) and `R64DEC` (R143). -/

namespace Sys2Proof.Machine

/-- `R64Encode(raw, n)` with `n` the length of the list: the symbols of the 6-bit values (R140). -/
def r64Encode (raw : List Byte) : List Byte := (groupValues raw).map alphabet

/-- The bit accumulator of `R64Decode`: `acc` holds the `nb` newest bits not yet output; at most 12 bits are live, older
ones have been output and are dropped (R141). -/
def decodeBits (acc : BitVec 12) (nb : Nat) : List Sextet → List Byte
  | [] => []
  | v :: vs =>
    let acc := (acc <<< 6) ||| v.setWidth 12
    if 8 ≤ nb + 6 then (acc >>> (nb - 2)).setWidth 8 :: decodeBits acc (nb - 2) vs
    else decodeBits acc (nb + 6) vs

/-- The bytes that symbols stand for, once every symbol is known to be in the alphabet (R141). -/
def r64Bytes (sym : List Byte) : List Byte := decodeBits 0#12 0 (sym.filterMap inv)

/-- Why `R64Decode` fails (R141). -/
inductive FormatError where
  /-- The last group has one symbol; `m` symbols in all. -/
  | truncatedGroup (m : Nat)
  /-- The symbol at index `i` is not in the alphabet, and none before it. -/
  | symbol (i : Nat)
deriving DecidableEq, Repr

/-- `R64Decode(sym, m)` with `m` the length of the list: the length check, then the symbol scan, then the bytes (R141). -/
def r64Decode (sym : List Byte) : Except FormatError (List Byte) :=
  if sym.length % 4 = 1 then .error (.truncatedGroup sym.length)
  else match firstBadSymbol 0 sym with
    | some i => .error (.symbol i)
    | none => .ok (r64Bytes sym)

/-- Phase `P_R64E`: `SYM[0..m-1]` and `SYMLEN` are written (R142). -/
def State.r64encWork (s : State) : State := s.withSymbols (r64Encode s.rawBytes)

/-- Phase `P_R64D`: `RAW[0..k-1]` and `RAWLEN` are written (R143). -/
def State.r64decWork (s : State) : State := s.withRawBytes (r64Bytes s.symBytes)

/-- `R64ENC` (R142). -/
def execR64enc (s : State) : Host.Outcome State Fault Refusal :=
  .next (s.offer .r64enc fun s => s.r64encWork.finish)

/-- `R64DEC` (R143). -/
def execR64dec (s : State) : Host.Outcome State Fault Refusal :=
  .next (s.offer .r64dec fun s => s.r64decWork.finish)

end Sys2Proof.Machine
end

