-- ==== Sys2Proof/Machine/System.lean ====
section
/-! DEFINITION. The system commands `CLRERR` (43_system R160) and `ZEROIZE` (R161), the only ones accepted while an error
is latched. -/

namespace Sys2Proof.Machine

/-- Phase `P_ZERO`: everything a call leaves behind is erased (R161). -/
def State.zeroizeWork (s : State) : State :=
  { s with
    cipher := Cipher.zero
    cipherZeroed := true
    key := Buffer.zeroed 72
    salt := Buffer.zeroed 16
    digest := Vector.replicate 23 0#8
    raw := Buffer.zeroed 48
    sym := Buffer.zeroed 64
    keylen := 0#8
    rawlen := 0#8
    symlen := 0#8
    cost := 0#8
    version := 0#3
    dataL := 0#32
    dataR := 0#32
    iter := 0#32
    sv := false
    err := .noError
    errinfo := 0#32 }

/-- `CLRERR`: takes effect at the write, whenever `BUSY = 0` (R160). -/
def execClrerr (s : State) : Host.Outcome State Fault Refusal :=
  .next (if s.busy then s else s.clearError)

/-- `ZEROIZE`: accepted whenever `BUSY = 0` (R161). -/
def execZeroize (s : State) : Host.Outcome State Fault Refusal :=
  .next (s.offerZeroize fun s => s.zeroizeWork.finish)

end Sys2Proof.Machine
end

