-- ==== Sys2Proof/Machine/Dispatch.lean ====
section
/-! DEFINITION. The meaning of every command, one arm per constructor of `Instr`: the whole command as one transition
(41_key_schedule R125). -/

namespace Sys2Proof.Machine

open Sys2Proof

def exec (i : Instr) (s : State) : Host.Outcome State Fault Refusal :=
  match i with
  | .init => Sys2Proof.Machine.execInit s
  | .xkey => Sys2Proof.Machine.execXkey s
  | .xsalt => Sys2Proof.Machine.execXsalt s
  | .xeks => Sys2Proof.Machine.execXeks s
  | .encblk => Sys2Proof.Machine.execEncblk s
  | .magic => Sys2Proof.Machine.execMagic s
  | .derive => Sys2Proof.Machine.execDerive s
  | .r64enc => Sys2Proof.Machine.execR64enc s
  | .r64dec => Sys2Proof.Machine.execR64dec s
  | .clrerr => Sys2Proof.Machine.execClrerr s
  | .zeroize => Sys2Proof.Machine.execZeroize s

end Sys2Proof.Machine
end

