-- ==== Sys2Proof/Machine/Sequencer.lean ====
section
/-! DEFINITION. The sequencer (41_key_schedule R125): a command accepted by `start` is performed by `engineStep`, one
phase at a time. The final state is that of `exec`. -/

namespace Sys2Proof.Machine

/-- A command write that only accepts the command (30_encoding R82): ignored, an error, or `BUSY = 1` in its first phase.
`DERIVE` sets `ITER` to 0 when it is accepted (10_state R34); `CLRERR` takes effect at once (43_system R160). -/
def State.start (s : State) (i : Instr) : State :=
  match i with
  | .init => s.offer .init id
  | .xkey => s.offer .xkey id
  | .xsalt => s.offer .xsalt id
  | .xeks => s.offer .xeks id
  | .encblk => s.offer .encblk id
  | .magic => s.offer .magic id
  | .derive => s.offer .derive fun s => s.withIter 0#32
  | .r64enc => s.offer .r64enc id
  | .r64dec => s.offer .r64dec id
  | .clrerr => if s.busy then s else s.clearError
  | .zeroize => s.offerZeroize id

/-- The engine is performing `DERIVE`. -/
def State.inDerive (s : State) : Bool := decide (s.opc = opcode .derive)

/-- The end of a pass of the cost loop: `ITER <- ITER + 1` (10_state R34). -/
def State.countPass (s : State) : State := s.withIter (s.iter + 1#32)

/-- One step of the engine: one phase, then the transition to the next (41_key_schedule R125). With `BUSY = 0`, and in
`IDLE`, the engine does nothing. -/
def State.engineStep (s : State) : State :=
  if s.busy then
    match s.phase with
    | .idle => s
    | .pInit => if s.inDerive then s.loadConstants.goTo .pXeks else s.initWork.finish
    | .pXeks => if s.inDerive then s.xeksWork.goTo .pXkey else s.xeksWork.finish
    | .pXkey => if s.inDerive then s.xkeyWork.goTo .pXsalt else s.xkeyWork.finish
    | .pXsalt =>
      if s.inDerive then
        let s := s.xsaltWork.countPass
        if s.iter.toNat < rounds s.cost then s.goTo .pXkey else s.goTo .pMagic
      else s.xsaltWork.finish
    | .pEnc => s.encblkWork.finish
    | .pMagic => if s.inDerive then s.magicWork.discardCipher.finish else s.magicWork.finish
    | .pR64e => s.r64encWork.finish
    | .pR64d => s.r64decWork.finish
    | .pZero => s.zeroizeWork.finish
  else s

end Sys2Proof.Machine
end

