-- ==== Sys2Proof/WellFormed.lean ====
section
/-! DEFINITION. Well-formedness. A command has no operand (30_encoding R80), so every command is well
formed; what can be ill formed is a host transaction (20_memory R60, R64, R65). -/

namespace Sys2Proof

/-- Every command is well formed: it has no field that could hold an illegal value (30_encoding R80). -/
def Instr.wf (_ : Instr) : Bool := true

namespace Machine

/-- The offset lies in the 8 KiB window (20_memory R60). -/
def Access.inWindow (a : Access) : Bool := decide (a.off < 0x2000)

/-- The access is one aligned 32-bit word (20_memory R64). -/
def Access.isAlignedWord (a : Access) : Bool := a.width = .word && decide (a.off % 4 = 0)

/-- A transaction that the spec defines (20_memory R60, R64). -/
def Access.wf (a : Access) : Bool := a.inWindow && a.isAlignedWord

end Machine

end Sys2Proof
end

