-- ==== Sys2Proof/Machine/Bus.lean ====
section
/-! DEFINITION. The register window as the host sees it: the address map (20_memory R61), reads and writes (R62, R65 to
R69), the command write (30_encoding R82), reset (70_reset R240, R241), and one event of the schedule. -/

namespace Sys2Proof.Machine

/-- The register at a word-aligned byte offset (20_memory R61). -/
def regOf (off : Nat) : Reg :=
  if off < 0x30 then
    match off / 4 with
    | 0 => .cmd
    | 1 => .status
    | 2 => .errinfo
    | 3 => .cost
    | 4 => .version
    | 5 => .keylen
    | 6 => .iter
    | 7 => .seq
    | 8 => .dataL
    | 9 => .dataR
    | 10 => .rawlen
    | _ => .symlen
  else if off < 0x40 then .saltw (Fin.ofNat 4 ((off - 0x30) / 4))
  else if off < 0x58 then .digestw (Fin.ofNat 6 ((off - 0x40) / 4))
  else if off < 0x80 then .reserved
  else if off < 0xC8 then .keyw (Fin.ofNat 18 ((off - 0x80) / 4))
  else if off < 0x100 then .reserved
  else if off < 0x148 then .p (Fin.ofNat 18 ((off - 0x100) / 4))
  else if off < 0x200 then .reserved
  else if off < 0x230 then .raww (Fin.ofNat 12 ((off - 0x200) / 4))
  else if off < 0x240 then .reserved
  else if off < 0x280 then .symw (Fin.ofNat 16 ((off - 0x240) / 4))
  else if off < 0x1000 then .reserved
  else if off < 0x2000 then .s (Fin.ofNat 4 ((off - 0x1000) / 0x400)) (Fin.ofNat 256 ((off - 0x1000) % 0x400 / 4))
  else .reserved

/-- The byte offset of a register that has one (20_memory R61). -/
def Reg.offset : Reg → Option Nat
  | .cmd => some 0x00
  | .status => some 0x04
  | .errinfo => some 0x08
  | .cost => some 0x0C
  | .version => some 0x10
  | .keylen => some 0x14
  | .iter => some 0x18
  | .seq => some 0x1C
  | .dataL => some 0x20
  | .dataR => some 0x24
  | .rawlen => some 0x28
  | .symlen => some 0x2C
  | .saltw w => some (0x30 + 4 * w)
  | .digestw w => some (0x40 + 4 * w)
  | .keyw w => some (0x80 + 4 * w)
  | .p i => some (0x100 + 4 * i)
  | .raww w => some (0x200 + 4 * w)
  | .symw w => some (0x240 + 4 * w)
  | .s b i => some (0x1000 + 0x400 * b + 4 * i)
  | .reserved => none

/-- The free word of the read being made (log 5). -/
def State.freeRead (s : State) : Word := Config.freeReadWord s.readDraws

/-- `P` and `S` hold specified values: `SV = 1`, or nothing but `ZEROIZE` has touched them (20_memory R69). -/
def State.cipherReadable (s : State) : Bool := s.sv || s.cipherZeroed

/-- `DIGESTW[w]`; the low byte of `DIGESTW[5]`, where a 24th byte would stand, reads 0 (10_state R28, 20_memory R62). -/
def State.digestWord (s : State) (w : Nat) : Word :=
  be32 (s.digest[4 * w]?.getD 0#8) (s.digest[4 * w + 1]?.getD 0#8) (s.digest[4 * w + 2]?.getD 0#8)
    (s.digest[4 * w + 3]?.getD 0#8)

/-- What a register holds, read while `BUSY = 0` (20_memory R61, R62, R65, R67, R69). -/
def State.regValue (s : State) : Reg → Word
  | .cmd => 0#32
  | .status => s.statusWord
  | .errinfo => s.errinfo
  | .cost => s.cost.setWidth 32
  | .version => s.version.setWidth 32
  | .keylen => s.keylen.setWidth 32
  | .iter => s.iter
  | .seq => s.seqWord
  | .dataL => s.dataL
  | .dataR => s.dataR
  | .rawlen => s.rawlen.setWidth 32
  | .symlen => s.symlen.setWidth 32
  | .saltw w => s.salt.word s.freeRead w
  | .digestw w => s.digestWord w
  | .keyw w => s.key.word s.freeRead w
  | .p i => if s.cipherReadable then s.cipher.p[i] else s.freeRead
  | .raww w => s.raw.word s.freeRead w
  | .symw w => s.sym.word s.freeRead w
  | .s b i => if s.cipherReadable then s.cipher.s[b][i] else s.freeRead
  | .reserved => 0#32

/-- The registers that read current values also while `BUSY = 1`: `STATUS`, `SEQ`, `ITER` (20_memory R68); a reserved
offset holds no register and reads 0 at all times (R65; log 10). -/
def Reg.readableWhileBusy : Reg → Bool
  | .status => true
  | .seq => true
  | .iter => true
  | .reserved => true
  | .cmd => false
  | .errinfo => false
  | .cost => false
  | .version => false
  | .keylen => false
  | .dataL => false
  | .dataR => false
  | .rawlen => false
  | .symlen => false
  | .saltw _ => false
  | .digestw _ => false
  | .keyw _ => false
  | .p _ => false
  | .raww _ => false
  | .symw _ => false
  | .s _ _ => false

/-- The word a `RegRead` returns (20_memory R61, R68). -/
def State.readReg (s : State) (r : Reg) : Word :=
  if s.busy && !r.readableWhileBusy then s.freeRead else s.regValue r

/-- A `RegRead`: the word goes to the host; reading changes no state of the block (20_memory R66). -/
def State.hostRead (s : State) (r : Reg) : State :=
  { s with rdata := s.readReg r, readDraws := s.readDraws + 1 }

/-- A write to a register other than `CMD` while `BUSY = 0`: reserved bits and read-only registers ignore it (20_memory
R61, R62, R65, R67). -/
def State.setReg (s : State) (r : Reg) (v : Word) : State :=
  match r with
  | .cmd => s
  | .status => s
  | .errinfo => s
  | .cost => { s with cost := v.setWidth 8 }
  | .version => { s with version := v.setWidth 3 }
  | .keylen => { s with keylen := v.setWidth 8 }
  | .iter => s
  | .seq => s
  | .dataL => { s with dataL := v }
  | .dataR => { s with dataR := v }
  | .rawlen => { s with rawlen := v.setWidth 8 }
  | .symlen => { s with symlen := v.setWidth 8 }
  | .saltw w => { s with salt := s.salt.putWord w v }
  | .digestw _ => s
  | .keyw w => { s with key := s.key.putWord w v }
  | .p _ => s
  | .raww w => { s with raw := s.raw.putWord w v }
  | .symw w => { s with sym := s.sym.putWord w v }
  | .s _ _ => s
  | .reserved => s

/-- A `RegWrite` to a register other than `CMD`: ignored while `BUSY = 1` (20_memory R68); else as `setReg` says, whether
or not an error is latched (60_exceptions R212). -/
def State.hostWrite (s : State) (r : Reg) (v : Word) : State := if s.busy then s else s.setReg r v

/-- The write of a word to `CMD` (30_encoding R82): the decoded command is performed as a whole, or, in a stepwise
machine, accepted and left to the engine (41_key_schedule R125; log 1); a word that is no command is illegal. -/
def State.commandWrite (s : State) (w : Word) : Host.Outcome State Fault Refusal :=
  match decode w with
  | .ok i => if s.stepwise then .next (s.start i) else exec i s
  | .error e => .next (s.illegalCommand w e)

/-- One transaction of the host (20_memory R60): outside the window it is not BCE's (R65), inside it only aligned words
are defined (R64; log 11). -/
def State.hostAccess (s : State) (a : Access) : Host.Outcome State Fault Refusal :=
  if a.inWindow then
    if a.isAlignedWord then
      match a with
      | .read _ off => .next (s.hostRead (regOf off))
      | .write _ off v => if off = 0 then s.commandWrite v else .next (s.hostWrite (regOf off) v)
    else .refused (.undefinedTransaction a.width a.off)
  else .fault (.outsideWindow a.off)

/-- Reset, also while a command runs (70_reset R240, R241). The model's own fields are not the block's and stay (log 13). -/
def State.resetBlock (s : State) : State :=
  { State.reset with
    mode2x := s.mode2x
    rdata := s.rdata
    pending := s.pending
    stepwise := s.stepwise
    readDraws := s.readDraws
    cmdDraws := s.cmdDraws }

/-- One event. -/
def State.perform (s : State) : Event → Host.Outcome State Fault Refusal
  | .access a => s.hostAccess a
  | .engine => .next s.engineStep
  | .reset => .next s.resetBlock

/-- The host writes the word `w` to `CMD` before anything else happens, and the command runs as a whole. -/
def State.queueCommand (s : State) (w : Word) : State :=
  { s with pending := .access (.write .word 0 w) :: s.pending, stepwise := false }

end Sys2Proof.Machine
end

