-- ==== Sys2Proof/Machine/Step.lean ====
section
/-! DEFINITION. One step of the machine. BCE fetches nothing (20_memory R72): what happens next is the first event of the
schedule; when nothing is scheduled the engine goes on with its work, and an idle block waits (70_reset R240). -/

namespace Sys2Proof.Machine

/-- One step: the first event of the schedule, or an engine turn when there is none (log 2). -/
def step (s : State) : Host.Outcome State Fault Refusal :=
  match s.pending with
  | [] => .next s.engineStep
  | e :: rest => State.perform { s with pending := rest } e

/-- `s` with the command whose bits are `w` (those above `nbits` zero) where `step` takes its next command from: as the
host's next transaction, a write to `CMD` (20_memory R60, R61). -/
def State.withFetchWord (s : State) (nbits w : Nat) : State :=
  s.queueCommand (BitVec.ofNat 32 (w % 2 ^ nbits))

end Sys2Proof.Machine
end

