-- ==== Sys2Proof/Machine/HostProgram.lean ====
section
/-! DEFINITION. The notation for host programs: the lines of 30_encoding R91, the pseudo-instructions of R92, and the
register traffic of the host sequences `HASH` and `VERIFY` (44_host_sequences R175, R176), as lists of events, with the
branches that the host takes on what it reads. What the host computes between its transactions (parsing, composing,
comparing) is host software (00_scope R5) and not here. -/

namespace Sys2Proof.Machine

/-- `WR` at a byte offset (R91). -/
def lineWr (off : Nat) (v : Word) : Event := .access (.write .word off v)

/-- `RD` at a byte offset (R91). -/
def lineRd (off : Nat) : Event := .access (.read .word off)

/-- `CMD MNEMONIC` (R91). -/
def lineCmd (i : Instr) : Event := lineWr 0x0000 (encode i)

/-- `WAIT`: in a machine that performs a command in one transition it is a single read of `STATUS` (95_test_vectors
section 3). -/
def lineWait : Event := lineRd 0x0004

/-- `RUN MNEMONIC`: `CMD MNEMONIC` then `WAIT` (R92). -/
def runCommand (i : Instr) : List Event := [lineCmd i, lineWait]

/-- Bytes packed big-endian into words, missing bytes of the last word 0 (R92, 20_memory R62). -/
def packWords : List Byte → List Word
  | [] => []
  | [b0] => [be32 b0 0#8 0#8 0#8]
  | [b0, b1] => [be32 b0 b1 0#8 0#8]
  | [b0, b1, b2] => [be32 b0 b1 b2 0#8]
  | b0 :: b1 :: b2 :: b3 :: rest => be32 b0 b1 b2 b3 :: packWords rest

/-- Writes of words to consecutive registers from a byte offset. -/
def writeWords (off : Nat) : List Word → List Event
  | [] => []
  | v :: vs => lineWr off v :: writeWords (off + 4) vs

/-- Reads of `n` consecutive registers from a byte offset. -/
def readWords (off n : Nat) : List Event := (List.range n).map fun k => lineRd (off + 4 * k)

/-- `LDKEY` (R92): `KEYW` then `KEYLEN`. -/
def ldKey (bytes : List Byte) : List Event :=
  writeWords 0x0080 (packWords bytes) ++ [lineWr 0x0014 (BitVec.ofNat 32 bytes.length)]

/-- `LDSALT` (R92): `SALTW[0..3]`. -/
def ldSalt (bytes : List Byte) : List Event := writeWords 0x0030 (packWords bytes)

/-- `LDRAW` (R92): `RAWW` then `RAWLEN`. -/
def ldRaw (bytes : List Byte) : List Event :=
  writeWords 0x0200 (packWords bytes) ++ [lineWr 0x0028 (BitVec.ofNat 32 bytes.length)]

/-- `LDSYM` (R92), the text given by its ASCII codes: `SYMW` then `SYMLEN`. -/
def ldSym (codes : List Byte) : List Event :=
  writeWords 0x0240 (packWords codes) ++ [lineWr 0x002C (BitVec.ofNat 32 codes.length)]

/-- What the host sees in a read of `STATUS`: the code of the error latched, bits 7:4 (10_state R31). -/
def seenError (status : Word) : BitVec 4 := status.extractLsb' 4 4

/-- A read of `STATUS` that says that the command completed: "ERR must be 0, DONE 1" (44_host_sequences R175). -/
def seenCompleted (status : Word) : Bool := decide (seenError status = 0#4) && status.getLsbD 1

/-- The end of every invocation, on success and on error alike (44_host_sequences R180). -/
def endLines : List Event := runCommand .zeroize

/-- The branch of `VERIFY` when `R64DEC` has latched `ERR_FORMAT`: `CMD CLRERR`, and "malformed" ends the invocation
(44_host_sequences R176, R178, R180). -/
def malformedLines : List Event := [lineCmd .clrerr] ++ endLines

/-- The lines that derive a digest, up to the read of `STATUS` (44_host_sequences R175, R176). -/
def deriveLines (key salt : List Byte) (cost : Byte) (version : BitVec 3) : List Event :=
  ldKey key ++ ldSalt salt ++ [lineWr 0x000C (cost.setWidth 32), lineWr 0x0010 (version.setWidth 32)]
    ++ runCommand .derive ++ [lineRd 0x0004]

/-- The reads of `DIGESTW[0..5]`. -/
def digestLines : List Event := readWords 0x0040 6

/-- The lines that encode raw bytes and read the symbols (44_host_sequences R175). -/
def encodeLines (raw : List Byte) (symbolWords : Nat) : List Event :=
  ldRaw raw ++ runCommand .r64enc ++ [lineRd 0x002C] ++ readWords 0x0240 symbolWords

/-- The lines that decode symbols, up to the read of `STATUS` (44_host_sequences R176). -/
def decodeLines (codes : List Byte) : List Event := ldSym codes ++ runCommand .r64dec ++ [lineRd 0x0004]

/-- The reads of `RAWLEN` and the first words of `RAWW`. -/
def rawLines (rawWords : Nat) : List Event := [lineRd 0x0028] ++ readWords 0x0200 rawWords

/-- The register traffic of `HASH`, given what the host's reads have returned: `status` after `DERIVE`, and `digest` from
`DIGESTW`. Unless `DERIVE` has completed the host stops (44_host_sequences R175). -/
def hashLines (key salt : List Byte) (cost : Byte) (version : BitVec 3) (status : Word) (digest : List Byte) :
    List Event :=
  deriveLines key salt cost version ++
    if seenCompleted status then digestLines ++ encodeLines salt 6 ++ encodeLines digest 8 ++ endLines
    else endLines

/-- What the host's reads have returned in the course of `VERIFY` (44_host_sequences R176). -/
structure VerifyReads where
  /-- `STATUS` after the `R64DEC` of the 22 salt symbols. -/
  saltStatus : Word
  /-- The 16 salt bytes from `RAWW[0..3]`. -/
  salt : List Byte
  /-- `STATUS` after the `R64DEC` of the 31 digest symbols. -/
  digestStatus : Word
deriving DecidableEq, Repr

/-- The register traffic of `VERIFY`, given what the host's reads have returned; after each `R64DEC` the branch
`ERR = 2` leads to "malformed" (44_host_sequences R176). -/
def verifyLines (saltCodes digestCodes key : List Byte) (cost : Byte) (version : BitVec 3) (r : VerifyReads) :
    List Event :=
  decodeLines saltCodes ++
    if seenError r.saltStatus = 2#4 then malformedLines
    else rawLines 4 ++ decodeLines digestCodes ++
      if seenError r.digestStatus = 2#4 then malformedLines
      else rawLines 6 ++ deriveLines key r.salt cost version ++ digestLines ++ endLines

end Sys2Proof.Machine
end

