-- ==== Sys2Proof/Safety.lean ====
section
/-! DEFINITION. What counts as a good state and a good run of BCE, in the terms claims use. -/

namespace Sys2Proof.Machine

/-- A write to `CMD` is not ignored: the engine is idle and no error is latched (60_exceptions R211 orders 1 and 2). -/
structure State.Ready (s : State) : Prop where
  idle : s.busy = false
  no_error : s.err = .noError

/-- The key is usable: a legal version code, 1..72 key bytes (10_state R23, R26). -/
structure State.KeyUsable (s : State) : Prop where
  version : s.versionReserved = false
  not_empty : 0 < s.keylen.toNat
  not_long : s.keylen.toNat ≤ 72

/-- Every key byte and every salt byte that a command reads has been written since reset (70_reset R255). -/
structure State.OperandsWritten (s : State) : Prop where
  key : ∀ i : Fin 72, i.val < s.keylen.toNat → s.key.written[i] = true
  salt : ∀ i : Fin 16, s.salt.written[i] = true

/-- The phases of a command, in order, each listed once (41_key_schedule R125). -/
def phasesOf : Instr → List Phase
  | .init => [.pInit]
  | .xkey => [.pXkey]
  | .xsalt => [.pXsalt]
  | .xeks => [.pXeks]
  | .encblk => [.pEnc]
  | .magic => [.pMagic]
  | .derive => [.pInit, .pXeks, .pXkey, .pXsalt, .pMagic]
  | .r64enc => [.pR64e]
  | .r64dec => [.pR64d]
  | .clrerr => []
  | .zeroize => [.pZero]

/-- The number of engine steps of an accepted command (41_key_schedule R125): `3 + 2·2^COST` for `DERIVE`. -/
def engineSteps (i : Instr) (s : State) : Nat :=
  match i with
  | .derive => 3 + 2 * rounds s.cost
  | .clrerr => 0
  | .init => 1
  | .xkey => 1
  | .xsalt => 1
  | .xeks => 1
  | .encblk => 1
  | .magic => 1
  | .r64enc => 1
  | .r64dec => 1
  | .zeroize => 1

/-- Where `ITER` stands in each phase of `DERIVE` (10_state R34, 41_key_schedule R125). -/
def State.iterFits (s : State) : Prop :=
  match s.phase with
  | .pInit => s.iter = 0#32
  | .pXeks => s.iter = 0#32
  | .pXkey => s.iter.toNat < rounds s.cost
  | .pXsalt => s.iter.toNat < rounds s.cost
  | .pMagic => s.iter.toNat = rounds s.cost
  | _ => True

/-- The invariant of the machine: what the spec says of every state that BCE can be in. -/
structure State.Inv (s : State) : Prop where
  /-- "`BUSY` and `DONE` are never both 1" (10_state R31). -/
  busy_not_done : s.busy = true → s.done = false
  /-- "`ERR != 0` implies `BUSY = 0` and `DONE = 0`" (R31). -/
  err_idle : s.err ≠ .noError → s.busy = false ∧ s.done = false
  /-- "While `BUSY = 0`, `PHASE = IDLE`" (R33). -/
  idle_phase : s.busy = false → s.phase = .idle
  /-- While `BUSY = 1`, `PHASE` names a phase of the command in `OPC` (R33, 41_key_schedule R125), and that command's
  checks hold: "A command once accepted cannot fail" (30_encoding R82). -/
  busy_command : s.busy = true → ∃ i, s.opc = opcode i ∧ s.phase ∈ phasesOf i ∧ precheck i s = none
  /-- `ITER` counts the passes of `DERIVE` (R34, R125). -/
  derive_iter : s.busy = true → s.opc = opcode .derive → s.iterFits
  /-- After `ZEROIZE`, `P` and `S` are zero and `SV = 0` until the next `INIT` or `DERIVE` (20_memory R69). -/
  zeroed : s.cipherZeroed = true → s.sv = false ∧ s.cipher = Cipher.zero
  /-- ... and `DERIVE` has ended that as soon as it has loaded the constants. -/
  derive_not_zeroed : s.busy = true → s.opc = opcode .derive → s.phase ≠ .pInit → s.cipherZeroed = false

/-- `n` steps of the machine, stopping at the first fault or refusal. -/
def runSteps : Nat → State → Host.Outcome State Fault Refusal
  | 0, s => .next s
  | n + 1, s =>
    match step s with
    | .next t => runSteps n t
    | .fault r => .fault r
    | .refused r => .refused r

/-- Commands given one after another, each as one transition. -/
def runCommands : List Instr → State → Host.Outcome State Fault Refusal
  | [], s => .next s
  | i :: is, s =>
    match exec i s with
    | .next t => runCommands is t
    | .fault r => .fault r
    | .refused r => .refused r

/-- The commands by which a host drives the key schedule by hand (95_test_vectors PR2): `INIT`, `XEKS`, then `n` times
(`XKEY`, `XSALT`), then `MAGIC`. -/
def handSchedule (n : Nat) : List Instr :=
  [.init, .xeks] ++ (List.replicate n [Instr.xkey, Instr.xsalt]).flatten ++ [.magic]

/-- The bits that the decoder discards from a final partial group are zero (42_radix64 R141, R145). -/
def discardedZero (sym : List Byte) : Bool :=
  match sym.length % 4, sym.getLast?.bind inv with
  | 2, some v => v.extractLsb' 0 4 = 0#4
  | 3, some v => v.extractLsb' 0 2 = 0#2
  | _, _ => true

end Sys2Proof.Machine
end

