-- ==== Sys2Proof/Certificates/Slice0/Obligations.lean ====
section
/-! DEFINITION. What is claimed of the model, one definition per statement; each docstring names the rule of spec/ it
formalises. A statement over every state also holds in states that no run reaches. -/

open Sys2Proof Sys2Proof.Machine

/-! ## Encoding -/

/-- Every command decodes from its word, and a word that decodes is that command's only word (30_encoding R80, R81). -/
def Obligations.DecodeAndEncodeAgree : Prop :=
  (∀ i : Instr, decode (encode i) = .ok i) ∧ (∀ (w : Word) (i : Instr), decode w = .ok i → encode i = w)

/-- Words written out from the opcode map decode to their commands; four illegal ones are rejected (30_encoding R81, R83). -/
def Obligations.SampleWordsDecode : Prop :=
  decode 0x00000001#32 = .ok .init ∧ decode 0x00000004#32 = .ok .xeks ∧ decode 0x00000008#32 = .ok .derive ∧
  decode 0x00000011#32 = .ok .r64dec ∧ decode 0x00000021#32 = .ok .zeroize ∧
  decode 0x00000000#32 = .error .unknownOpcode ∧ decode 0x00000007#32 = .error .unknownOpcode ∧
  decode 0x00000101#32 = .error .highBitsNotZero ∧ decode 0x12345621#32 = .error .highBitsNotZero

/-- A word that is no command, written to `CMD` of a block that is idle with no error latched, raises `ERR_ILLEGAL`:
subcode 2 with detail `CMD` bits 23:8 where bits 31:8 are not zero, else subcode 1 with detail 0 where the opcode is
none of the eleven of the map; nothing but `ERR`, `ERRINFO`, `DONE` changes (30_encoding R83 (a), (b); 60_exceptions
R200, R210). `cmdDraws` is the model's draw counter (log 6). -/
def Obligations.IllegalWordRaisesIllegal : Prop :=
  ∀ (s : State) (w : Word), s.Ready →
    if w >>> 8 ≠ 0#32 then
      s.commandWrite w = .next { s with
        err := .illegal, errinfo := errinfoWord 2#8 (w.setWidth 8) ((w >>> 8).setWidth 16), done := false
        cmdDraws := s.cmdDraws + 1 }
    else if w ∉ [0x01#32, 0x02#32, 0x03#32, 0x04#32, 0x05#32, 0x06#32, 0x08#32, 0x10#32, 0x11#32, 0x20#32, 0x21#32] then
      s.commandWrite w = .next { s with
        err := .illegal, errinfo := errinfoWord 1#8 (w.setWidth 8) 0#16, done := false
        cmdDraws := s.cmdDraws + 1 }
    else ∃ i, decode w = .ok i

/-! ## A step -/

/-- The first event of the schedule being a write of a command's word to `CMD`, a step is that command's `exec` on the
state with the event taken off; a stepwise machine accepts the command instead (log 1, log 2). -/
def Obligations.StepRunsTheWrittenCommand : Prop :=
  ∀ (s : State) (rest : List Event) (w : Word) (i : Instr),
    s.pending = .access (.write .word 0x0000 w) :: rest → decode w = .ok i →
      (s.stepwise = false → step s = exec i { s with pending := rest }) ∧
      (s.stepwise = true → step s = .next (State.start { s with pending := rest } i))

/-- A transaction outside the window is a fault and one inside it that is not an aligned 32-bit word is refused, by name;
every aligned word read of the window answers a next state (20_memory R60, R64, R65; log 11). -/
def Obligations.OnlyAlignedWordsInTheWindow : Prop :=
  ∀ (s : State) (rest : List Event) (a : Access), s.pending = .access a :: rest →
    if 0x2000 ≤ a.off then step s = .fault (.outsideWindow a.off)
    else if a.width ≠ .word ∨ a.off % 4 ≠ 0 then step s = .refused (.undefinedTransaction a.width a.off)
    else ∃ t, step s = .next t

/-! ## The commands complete -/

/-- `INIT` (40_cipher_core R103): whatever `SV` is, the standard constants, the four words of the rule's example among them,
and `SV = 1`; nothing else but the bookkeeping of a completed command (`cmdDraws` is the model's draw counter, log 6). -/
def Obligations.InitLoadsTheConstants : Prop :=
  encode .init = 0x00000001#32 ∧
  pInit[0] = 0x243F6A88#32 ∧ pInit[17] = 0x8979FB1B#32 ∧ sInit[0][0] = 0xD1310BA6#32 ∧ sInit[3][255] = 0x3AC372E6#32 ∧
  ∀ s : State, s.Ready →
    exec .init s = .next { s with
      cipher := ⟨pInit, sInit⟩, cipherZeroed := false, sv := true
      opc := 0x01#8, phase := .idle, busy := false, done := true, cmdDraws := s.cmdDraws + 1 }

/-- `XKEY` (40_cipher_core R104) with a usable key and `SV = 1`: the unsalted expansion of the present cipher state
with the key bytes, assembled signed exactly for version code 3. `cmdDraws` is the model's draw counter (log 6). -/
def Obligations.XkeyExpandsTheKey : Prop :=
  ∀ s : State, s.Ready → s.KeyUsable → s.sv = true →
    exec .xkey s = .next { s with
      cipher := expandKey #v[0#32, 0#32, 0#32, 0#32] (if s.version = 3#3 then .signed else .literal)
        s.newDraw.keyBytes s.cipher
      opc := 0x02#8, phase := .idle, busy := false, done := true, cmdDraws := s.cmdDraws + 1 }

/-- `XSALT` (40_cipher_core R105) with `SV = 1`: the unsalted expansion with the 16 salt bytes as key bytes, literal
whatever `VERSION` is; with `SV = 0` it raises `ERR_STATE`. `cmdDraws` is the model's draw counter (log 6). -/
def Obligations.XsaltExpandsTheSalt : Prop :=
  encode .xsalt = 0x00000003#32 ∧
  ∀ s : State, s.Ready →
    (s.sv = true → exec .xsalt s = .next { s with
      cipher := expandKey #v[0#32, 0#32, 0#32, 0#32] .literal s.newDraw.saltBytes s.cipher
      opc := 0x03#8, phase := .idle, busy := false, done := true, cmdDraws := s.cmdDraws + 1 }) ∧
    (s.sv = false → exec .xsalt s = .next { s with
      err := .state, errinfo := 0x01030000#32, done := false, cmdDraws := s.cmdDraws + 1 })

/-- `XEKS` (40_cipher_core R106) with a usable key and `SV = 1`: the expansion with the key whose chain carries the four
salt words (`cmdDraws` is the model's draw counter, log 6). And what that expansion is, for every salt, mode, key and
cipher state (R102): `j t` the key cursor, `b t` the chained block and `c t` the cipher state after `t` of the 521
encryptions. Step 1 mixes key word `i` into the present `P[i]`; the chain starts from the zero block; each encryption takes
the block before it with the salt pair of its number, which runs on from `P` into `S`, and the state as refilled so far; it
stores `P[0], P[1]`, ..., `P[16], P[17]`, then `S[0]` to `S[3]`, each in index order. `XKEY` and `XSALT` are the same
expansion with four zero salt words. -/
def Obligations.XeksExpandsKeyWithSalt : Prop :=
  (∀ s : State, s.Ready → s.KeyUsable → s.sv = true →
    exec .xeks s = .next { s with
      cipher := expandKey (saltWords s.newDraw.saltBytes) (if s.version = 3#3 then .signed else .literal)
        s.newDraw.keyBytes s.cipher
      opc := 0x04#8, phase := .idle, busy := false, done := true, cmdDraws := s.cmdDraws + 1 }) ∧
  ∀ (sw : Vector Word 4) (mode : KeyMode) (kb : List Byte) (c0 : Cipher),
    ∃ (j : Nat → Nat) (b : Nat → Word × Word) (c : Nat → Cipher),
      j 0 = 0 ∧ (∀ i, j (i + 1) = (keyWord mode kb (j i)).2) ∧
      (c 0).s = c0.s ∧ (∀ i : Fin 18, (c 0).p[i] = c0.p[i] ^^^ (keyWord mode kb (j i)).1) ∧
      b 0 = (0#32, 0#32) ∧
      (∀ t, b (t + 1) = (c t).encryptBlock
        ((b t).1 ^^^ sw[2 * t % 4]?.getD 0#32, (b t).2 ^^^ sw[(2 * t + 1) % 4]?.getD 0#32)) ∧
      (∀ t, t < 9 → c (t + 1) = { c t with
        p := ((c t).p.setIfInBounds (2 * t) (b (t + 1)).1).setIfInBounds (2 * t + 1) (b (t + 1)).2 }) ∧
      (∀ (n : Fin 4) (k t : Nat), k < 128 → t = 9 + 128 * n.val + k → c (t + 1) = { c t with
        s := (c t).s.set n
          (((c t).s[n].setIfInBounds (2 * k) (b (t + 1)).1).setIfInBounds (2 * k + 1) (b (t + 1)).2) }) ∧
      expandKey sw mode kb c0 = c 521

/-- `ENCBLK` (40_cipher_core R107) with `SV = 1`: the data block is replaced by its encryption; the cipher state is
not changed. With `SV = 0` it raises `ERR_STATE`. `cmdDraws` is the model's draw counter (log 6). -/
def Obligations.EncblkEncryptsTheBlock : Prop :=
  encode .encblk = 0x00000005#32 ∧
  ∀ s : State, s.Ready →
    (s.sv = true → exec .encblk s = .next { s with
      dataL := (s.cipher.encryptBlock (s.dataL, s.dataR)).1, dataR := (s.cipher.encryptBlock (s.dataL, s.dataR)).2
      opc := 0x05#8, phase := .idle, busy := false, done := true, cmdDraws := s.cmdDraws + 1 }) ∧
    (s.sv = false → exec .encblk s = .next { s with
      err := .state, errinfo := 0x01050000#32, done := false, cmdDraws := s.cmdDraws + 1 })

/-- `MAGIC` (41_key_schedule R123) with `SV = 1`: the first 23 bytes of `MagicEncrypt` of the present cipher state,
which is not changed. With `SV = 0` it raises `ERR_STATE`. `cmdDraws` is the model's draw counter (log 6). -/
def Obligations.MagicWritesTheDigest : Prop :=
  encode .magic = 0x00000006#32 ∧
  (∀ (c : Cipher) (i : Fin 23), (magicEncrypt c)[i.val]? = some (digestOf c)[i]) ∧
  ∀ s : State, s.Ready →
    (s.sv = true → exec .magic s = .next { s with
      digest := digestOf s.cipher
      opc := 0x06#8, phase := .idle, busy := false, done := true, cmdDraws := s.cmdDraws + 1 }) ∧
    (s.sv = false → exec .magic s = .next { s with
      err := .state, errinfo := 0x01060000#32, done := false, cmdDraws := s.cmdDraws + 1 })

/-- `DERIVE` (41_key_schedule R124) with a usable key and a cost in 4..31, whatever `SV` is: the digest of `EksSetup`,
`ITER = 2^COST`, `SV = 0`, and `P`, `S` left as free words (log 7); all operands are left as they were. `cmdDraws` is
the model's draw counter (log 6). -/
def Obligations.DeriveWritesTheDigest : Prop :=
  ∀ s : State, s.Ready → s.KeyUsable → 4 ≤ s.cost.toNat → s.cost.toNat ≤ 31 →
    exec .derive s = .next { s with
      cipher := freeCipher (s.cmdDraws + 1), cipherZeroed := false, sv := false
      digest := digestOf (eksSetup (if s.version = 3#3 then .signed else .literal)
        s.newDraw.keyBytes s.newDraw.saltBytes s.cost)
      iter := BitVec.ofNat 32 (2 ^ s.cost.toNat)
      opc := 0x08#8, phase := .idle, busy := false, done := true, cmdDraws := s.cmdDraws + 1 }

/-- `R64ENC` (42_radix64 R142) with `RAWLEN` at most 48: the symbols of the raw bytes and their count; the symbols
beyond keep their old contents. With more it raises `ERR_CAPACITY` subcode 1. `cmdDraws` is the model's draw counter
(log 6). -/
def Obligations.R64encWritesTheSymbols : Prop :=
  encode .r64enc = 0x00000010#32 ∧
  ∀ s : State, s.Ready →
    (s.rawlen.toNat ≤ 48 → exec .r64enc s = .next { s with
      sym := s.sym.putFrom 0 (r64Encode s.newDraw.rawBytes)
      symlen := BitVec.ofNat 8 (r64Encode s.newDraw.rawBytes).length
      opc := 0x10#8, phase := .idle, busy := false, done := true, cmdDraws := s.cmdDraws + 1 }) ∧
    (48 < s.rawlen.toNat → exec .r64enc s = .next { s with
      err := .capacity, errinfo := errinfoWord 1#8 0x10#8 (s.rawlen.setWidth 16), done := false
      cmdDraws := s.cmdDraws + 1 })

/-- `R64DEC` (42_radix64 R143) with `SYMLEN` at most 64, no final group of one and every symbol in the alphabet: the bytes
that `R64Decode` gives for the symbols (R141), and their count; the raw bytes beyond keep their old contents (`cmdDraws` is
the model's draw counter, log 6). -/
def Obligations.R64decWritesTheBytes : Prop :=
  ∀ s : State, s.Ready → s.symlen.toNat ≤ 64 → s.symlen.toNat % 4 ≠ 1 →
    (∀ c ∈ s.newDraw.symBytes, (inv c).isSome = true) →
    ∃ bytes : List Byte, r64Decode s.newDraw.symBytes = .ok bytes ∧
      exec .r64dec s = .next { s with
        raw := s.raw.putFrom 0 bytes, rawlen := BitVec.ofNat 8 bytes.length
        opc := 0x11#8, phase := .idle, busy := false, done := true, cmdDraws := s.cmdDraws + 1 }

/-- `CLRERR` (43_system R160): whenever `BUSY = 0`, with or without a latched error, it clears `ERR`, `ERRINFO` and `DONE`
and is recorded in `SEQ.OPC`; nothing else changes, and in either granularity it takes effect at the write. -/
def Obligations.ClrerrClearsTheLatch : Prop :=
  encode .clrerr = 0x00000020#32 ∧
  ∀ s : State, s.busy = false →
    exec .clrerr s = .next { s with err := .noError, errinfo := 0#32, done := false, opc := 0x20#8 } ∧
    s.commandWrite 0x00000020#32 = .next { s with err := .noError, errinfo := 0#32, done := false, opc := 0x20#8 }

/-- `ZEROIZE` (43_system R161): whenever `BUSY = 0`, with or without a latched error, it writes every piece of the
block's state; what stays is the model's own. It cannot stop a running command. `cmdDraws` is the model's draw counter
(log 6). -/
def Obligations.ZeroizeErasesEverything : Prop :=
  encode .zeroize = 0x00000021#32 ∧
  (∀ s : State, s.busy = true → exec .zeroize s = .next s) ∧
  ∀ s : State, s.busy = false →
    exec .zeroize s = .next {
      cipher := Cipher.zero, cipherZeroed := true, sv := false
      key := Buffer.zeroed 72, keylen := 0#8, salt := Buffer.zeroed 16, cost := 0#8, version := 0#3
      dataL := 0#32, dataR := 0#32, digest := Vector.replicate 23 0#8
      raw := Buffer.zeroed 48, rawlen := 0#8, sym := Buffer.zeroed 64, symlen := 0#8, iter := 0#32
      err := .noError, errinfo := 0#32, opc := 0x21#8, phase := .idle, busy := false, done := true
      mode2x := s.mode2x, rdata := s.rdata, pending := s.pending, stepwise := s.stepwise
      readDraws := s.readDraws, cmdDraws := s.cmdDraws + 1 }

/-! ## Errors -/

/-- A reserved version code, 5..7, and 3 under `MODE_2X = refuse`, makes `XKEY`, `XEKS`, `DERIVE` raise `ERR_ILLEGAL`
subcode 3 with the code as detail, before any other check (30_encoding R83 (c); 60_exceptions R200, R211 order 5).
`cmdDraws` is the model's draw counter (log 6). -/
def Obligations.ReservedVersionRaisesIllegal : Prop :=
  ∀ (i : Instr) (s : State), i ∈ [Instr.xkey, .xeks, .derive] → s.Ready →
    (5 ≤ s.version.toNat ∨ (s.version.toNat = 3 ∧ s.mode2x = .refuse)) →
    exec i s = .next { s with
      err := .illegal, errinfo := errinfoWord 3#8 (opcode i) (s.version.setWidth 16), done := false
      cmdDraws := s.cmdDraws + 1 }

/-- A command that reads the cipher state raises `ERR_STATE` while `SV = 0`; for `XKEY` and `XEKS` the version check
comes before (60_exceptions R207, R211 order 6). `cmdDraws` is the model's draw counter (log 6). -/
def Obligations.InvalidCipherStateRaisesState : Prop :=
  ∀ (i : Instr) (s : State), i ∈ [Instr.xkey, .xsalt, .xeks, .encblk, .magic] → s.Ready → s.sv = false →
    (i ∈ [Instr.xkey, .xeks] → s.versionReserved = false) →
    exec i s = .next { s with
      err := .state, errinfo := errinfoWord 1#8 (opcode i) 0#16, done := false, cmdDraws := s.cmdDraws + 1 }

/-- An empty key raises `ERR_VALIDATION` and a key of more than 72 bytes `ERR_LENGTH` with `KEYLEN` as detail, both after
the version and state checks and before the cost check; every other length is usable, and no command raises
`ERR_VALIDATION` for another cause or with another subcode (60_exceptions R203, R204, R211 orders 7 and 8; `cmdDraws` is
the model's draw counter, log 6). -/
def Obligations.BadKeyLengthRaises : Prop :=
  (∀ (i : Instr) (s : State), i ∈ [Instr.xkey, .xeks, .derive] → s.Ready → s.versionReserved = false →
    (i ≠ .derive → s.sv = true) →
    if s.keylen.toNat = 0 then
      exec i s = .next { s with
        err := .validation, errinfo := errinfoWord 1#8 (opcode i) 0#16, done := false, cmdDraws := s.cmdDraws + 1 }
    else if 73 ≤ s.keylen.toNat then
      exec i s = .next { s with
        err := .length, errinfo := errinfoWord 1#8 (opcode i) (s.keylen.setWidth 16), done := false
        cmdDraws := s.cmdDraws + 1 }
    else s.KeyUsable) ∧
  (∀ (i : Instr) (s t : State), s.Ready → exec i s = .next t → t.err = .validation →
    i ∈ [Instr.xkey, .xeks, .derive] ∧ s.keylen.toNat = 0 ∧ t.errinfo.extractLsb' 24 8 = 1#8)

/-- A cost outside 4..31 makes `DERIVE` with a usable key raise `ERR_CONFIG` with `COST` as detail (60_exceptions
R201, R211 order 9). `cmdDraws` is the model's draw counter (log 6). -/
def Obligations.BadCostRaisesConfig : Prop :=
  ∀ s : State, s.Ready → s.KeyUsable → (s.cost.toNat < 4 ∨ 31 < s.cost.toNat) →
    exec .derive s = .next { s with
      err := .config, errinfo := errinfoWord 1#8 0x08#8 (s.cost.setWidth 16), done := false
      cmdDraws := s.cmdDraws + 1 }

/-- A length register over its buffer's capacity raises `ERR_CAPACITY`: `RAWLEN > 48` at `R64ENC`, `SYMLEN > 64` at
`R64DEC` (60_exceptions R200, R206, R211 order 10). `cmdDraws` is the model's draw counter (log 6). -/
def Obligations.OverCapacityRaisesCapacity : Prop :=
  ∀ s : State, s.Ready →
    (48 < s.rawlen.toNat → exec .r64enc s = .next { s with
      err := .capacity, errinfo := errinfoWord 1#8 0x10#8 (s.rawlen.setWidth 16), done := false
      cmdDraws := s.cmdDraws + 1 }) ∧
    (64 < s.symlen.toNat → exec .r64dec s = .next { s with
      err := .capacity, errinfo := errinfoWord 2#8 0x11#8 (s.symlen.setWidth 16), done := false
      cmdDraws := s.cmdDraws + 1 })

/-- `R64DEC` of symbols within the buffer: a final group of one raises `ERR_FORMAT` subcode 2 with `SYMLEN`; otherwise
the lowest index of a code outside the alphabet raises subcode 1 with that index (60_exceptions R202, R211 orders 11,
12). `cmdDraws` is the model's draw counter (log 6). -/
def Obligations.BadSymbolsRaiseFormat : Prop :=
  ∀ s : State, s.Ready → s.symlen.toNat ≤ 64 →
    if s.symlen.toNat % 4 = 1 then
      exec .r64dec s = .next { s with
        err := .format, errinfo := errinfoWord 2#8 0x11#8 (s.symlen.setWidth 16), done := false
        cmdDraws := s.cmdDraws + 1 }
    else ∀ k : Nat, k < s.symlen.toNat → (s.newDraw.symBytes[k]?.bind inv) = none →
      (∀ j : Nat, j < k → (s.newDraw.symBytes[j]?.bind inv).isSome = true) →
      exec .r64dec s = .next { s with
        err := .format, errinfo := errinfoWord 1#8 0x11#8 (BitVec.ofNat 16 k), done := false
        cmdDraws := s.cmdDraws + 1 }

/-- Errors are precise: a write to `CMD` after which an error is newly latched, in either granularity, has changed nothing
but `ERR`, `ERRINFO`, which holds the opcode byte of the write in bits 23:16, and `DONE`, which is 0 (60_exceptions R210;
the draw counter is the model's own, log 6). -/
def Obligations.ErrorsArePrecise : Prop :=
  ∀ (w : Word) (s t : State), s.Ready → s.commandWrite w = .next t → t.err ≠ .noError →
    ∃ (subcode : Byte) (detail : BitVec 16),
      t = { s with
        err := t.err, done := false, cmdDraws := s.cmdDraws + 1
        errinfo := (subcode.setWidth 32 <<< 24) ||| ((w &&& 0xFF#32) <<< 16) ||| detail.setWidth 32 }

/-- While an error is latched, every write to `CMD` other than `CLRERR` and `ZEROIZE` is ignored, in either granularity;
those two end with no error latched; writes of other registers work as usual (60_exceptions R212). That in a stepwise
machine `ZEROIZE` shows `ERR = 0` and `ERRINFO = 0` as soon as it is accepted, before its phase `P_ZERO`, is the model's
reading of 10_state R31 (`ERR != 0` implies `BUSY = 0`) against 43_system R161, which lists the clearing with the work
(log 9, DEDUCED). -/
def Obligations.LatchedErrorIgnoresCommands : Prop :=
  ∀ (s : State) (w : Word), s.busy = false → s.err ≠ .noError →
    (w ≠ 0x00000020#32 → w ≠ 0x00000021#32 → s.commandWrite w = .next s) ∧
    (w = 0x00000020#32 ∨ w = 0x00000021#32 → ∃ t, s.commandWrite w = .next t ∧ t.err = .noError ∧ t.errinfo = 0#32) ∧
    (∀ (r : Reg) (v : Word), s.hostWrite r v = s.setReg r v)

/-- A latched error stays, with its `ERRINFO`, over every step of the machine but three: a reset, and a write of
`CLRERR` or `ZEROIZE` to `CMD` (60_exceptions R212). -/
def Obligations.OnlyClearingCommandsUnlatch : Prop :=
  ∀ s t : State, s.Inv → s.err ≠ .noError → step s = .next t →
    (t.err = s.err ∧ t.errinfo = s.errinfo) ∨
    (∃ rest, s.pending = .reset :: rest) ∨
    (∃ rest, s.pending = .access (.write .word 0x0000 0x00000020#32) :: rest) ∨
    (∃ rest, s.pending = .access (.write .word 0x0000 0x00000021#32) :: rest)

/-! ## The functions of the cipher -/

/-- The round function `F` (40_cipher_core R100): the most significant byte indexes `S[0]`, the least `S[3]`; add,
exclusive-or, add. And `EncryptBlock` equals the form without swaps: `L ^= P[0]`; for odd `i`, `R ^= F(S, L) ^ P[i]`,
`L ^= F(S, R) ^ P[i+1]`; the result is `(R ^ P[17], L)` (R101). -/
def Obligations.EncryptBlockWithoutSwaps : Prop :=
  (∀ (c : Cipher) (x : Word), c.f x =
    ((c.s[0][(x.extractLsb' 24 8).toNat]'(BitVec.isLt _) + c.s[1][(x.extractLsb' 16 8).toNat]'(BitVec.isLt _)) ^^^
      c.s[2][(x.extractLsb' 8 8).toNat]'(BitVec.isLt _)) + c.s[3][(x.extractLsb' 0 8).toNat]'(BitVec.isLt _)) ∧
  (∀ (c : Cipher) (i : Fin 18), c.subkey i = c.p[i]) ∧
  ∀ (c : Cipher) (l r : Word),
    let rounds := [1, 3, 5, 7, 9, 11, 13, 15].foldl (fun (lr : Word × Word) i =>
      let r := lr.2 ^^^ (c.f lr.1 ^^^ c.subkey i)
      (lr.1 ^^^ (c.f r ^^^ c.subkey (i + 1)), r)) (l ^^^ c.subkey 0, r)
    c.encryptBlock (l, r) = (rounds.2 ^^^ c.subkey 17, rounds.1)

/-- In literal mode a key word is `BE32` of the four bytes at the cyclic positions `j, j+1, j+2, j+3`, the first the most
significant, and the cursor moves on by four around the key (30_encoding R85, R86). -/
def Obligations.LiteralKeyWordIsBigEndian : Prop :=
  ∀ (kb : List Byte) (j : Nat), j < kb.length →
    let byte (n : Nat) : Word := (kb.getD ((j + n) % kb.length) 0#8).setWidth 32
    keyWord .literal kb j =
      ((byte 0 <<< 24) ||| (byte 1 <<< 16) ||| (byte 2 <<< 8) ||| byte 3, (j + 4) % kb.length)

/-- In signed mode each of the four key bytes is sign-extended and or-ed into the word shifted by 8, so that a byte with
bit 7 set sets every bit of the bytes before it; when no key byte has bit 7 set the two modes agree; the cursor never
depends on the mode (30_encoding R86). -/
def Obligations.KeyWordModesAgreeOnAscii : Prop :=
  (∀ (kb : List Byte) (j : Nat),
    (keyWord .signed kb j).2 = (keyWord .literal kb j).2 ∧
    ((∀ b ∈ kb, b.msb = false) → keyWord .signed kb j = keyWord .literal kb j)) ∧
  (∀ (kb : List Byte) (j : Nat), j < kb.length →
    let byte (n : Nat) : Word := (kb.getD ((j + n) % kb.length) 0#8).signExtend 32
    (keyWord .signed kb j).1 = (byte 0 <<< 24) ||| (byte 1 <<< 16) ||| (byte 2 <<< 8) ||| byte 3)

/-- The salt used as key bytes gives the salt words in cyclic order (30_encoding R87, 40_cipher_core R105). -/
def Obligations.SaltAsKeyGivesSaltWords : Prop :=
  ∀ (salt : List Byte) (i : Nat), salt.length = 16 →
    keyWord .literal salt (4 * i % 16) = (saltWord salt (i % 4), 4 * (i + 1) % 16)

/-- A one-byte zero key, the empty password with its terminator, leaves the subkeys unchanged in step 1 of the expansion
(40_cipher_core R104), and so does any key of zero bytes. -/
def Obligations.ZeroKeyLeavesSubkeys : Prop :=
  ∀ (mode : KeyMode) (n : Nat) (c : Cipher), mixKey mode (List.replicate (n + 1) 0#8) c = c

/-- With an all-zero salt `XEKS` equals `XKEY`, but for the opcode recorded (40_cipher_core R106, R102 (e)). -/
def Obligations.XeksWithZeroSaltIsXkey : Prop :=
  ∀ s : State, s.Ready → s.KeyUsable → s.sv = true → s.salt = Buffer.zeroed 16 →
    ∃ t, exec .xkey s = .next t ∧ exec .xeks s = .next { t with opc := 0x04#8 }

/-- Block by block or pass by pass: sixty-four passes over the three blocks of the constant, `OrpheanB`, `eholderS`,
`cryDoubt`, give the same 24 big-endian bytes (41_key_schedule R121, R126; 15_constants R53). -/
def Obligations.MagicBlockOrderIsImmaterial : Prop :=
  ∀ c : Cipher,
    magicEncrypt c =
      (Nat.iterate (List.map c.encryptBlock) 64
        [(0x4F727068#32, 0x65616E42#32), (0x65686F6C#32, 0x64657253#32), (0x63727944#32, 0x6F756274#32)]).flatMap
        fun lr => [lr.1, lr.2].flatMap fun w =>
          [w.extractLsb' 24 8, w.extractLsb' 16 8, w.extractLsb' 8 8, w.extractLsb' 0 8]

/-- `KEY` bytes beyond `KEYLEN` are ignored by the commands that use the key: replacing them replaces nothing else in the
outcome (10_state R23). -/
def Obligations.BytesBeyondKeylenIgnored : Prop :=
  ∀ (i : Instr) (s : State) (k : Buffer 72), i ∈ [Instr.xkey, .xeks, .derive] →
    (∀ j, j < s.keylen.toNat → k.bytes[j]? = s.key.bytes[j]? ∧ k.written[j]? = s.key.written[j]?) →
    ∃ t, exec i s = .next t ∧ exec i { s with key := k } = .next { t with key := k }

/-- The digest of `DERIVE` is a function of the key bytes, the salt, the cost and whether the version is `2x`: two blocks
that agree on these, all of them written, give the same digest whatever else they hold, their cipher states among it
(41_key_schedule R127, R124). -/
def Obligations.DigestDependsOnOperandsOnly : Prop :=
  ∀ s t s' t' : State, s.Ready → t.Ready → s.KeyUsable → t.KeyUsable →
    4 ≤ s.cost.toNat → s.cost.toNat ≤ 31 → t.cost = s.cost → t.keylen = s.keylen →
    (t.version = 3#3 ↔ s.version = 3#3) →
    s.OperandsWritten → t.OperandsWritten →
    (∀ j : Fin 72, j.val < s.keylen.toNat → t.key.bytes[j] = s.key.bytes[j]) → t.salt.bytes = s.salt.bytes →
    exec .derive s = .next s' → exec .derive t = .next t' → t'.digest = s'.digest ∧ t'.iter = s'.iter

/-- A key none of whose bytes has bit 7 set gives the same digest under `2x` as under any other legal version
(41_key_schedule R127). -/
def Obligations.AsciiKeyDigestIgnoresVersion : Prop :=
  ∀ (s s' t' : State) (v : BitVec 3), s.Ready → s.KeyUsable → 4 ≤ s.cost.toNat → s.cost.toNat ≤ 31 → v.toNat ≤ 4 →
    s.mode2x = .signext → (∀ b ∈ s.newDraw.keyBytes, b.msb = false) →
    exec .derive s = .next s' → exec .derive { s with version := v } = .next t' → t'.digest = s'.digest

/-- Driving the schedule by hand, `INIT`, `XEKS`, `2^COST` times (`XKEY`, `XSALT`), `MAGIC`, gives the digest that `DERIVE`
gives for the same operands (41_key_schedule R124, R125). -/
def Obligations.HandDrivenScheduleMatchesDerive : Prop :=
  ∀ s : State, s.Ready → s.KeyUsable → 4 ≤ s.cost.toNat → s.cost.toNat ≤ 31 → s.OperandsWritten →
    ∃ t u, exec .derive s = .next t ∧ runCommands (handSchedule (2 ^ s.cost.toNat)) s = .next u ∧
      u.digest = t.digest ∧ u.sv = true ∧ u.iter = s.iter

/-! ## The codec -/

/-- The alphabet is `.`, `/`, `A`..`Z`, `a`..`z`, `0`..`9`, in this order, and `INV[c]` is `v` exactly when `c` is the
symbol of `v` (15_constants R54, R55). -/
def Obligations.AlphabetAndInverse : Prop :=
  (∀ v : Sextet, (alphabet v).toNat =
    if v.toNat < 2 then 0x2E + v.toNat else if v.toNat < 28 then 0x41 + (v.toNat - 2)
    else if v.toNat < 54 then 0x61 + (v.toNat - 28) else 0x30 + (v.toNat - 54)) ∧
  (∀ (c : Byte) (v : Sextet), inv c = some v ↔ alphabet v = c)

/-- The length law: `3q`, `3q+1`, `3q+2` bytes give `4q`, `4q+2`, `4q+3` symbols, all of the alphabet, so no `=`; and `4q`,
`4q+2`, `4q+3` symbols give `3q`, `3q+1`, `3q+2` bytes, `4q+1` symbols an error (42_radix64 R144). -/
def Obligations.RadixLengthLaw : Prop :=
  (∀ (x : List Byte) (q : Nat),
    (x.length = 3 * q → (r64Encode x).length = 4 * q) ∧
    (x.length = 3 * q + 1 → (r64Encode x).length = 4 * q + 2) ∧
    (x.length = 3 * q + 2 → (r64Encode x).length = 4 * q + 3)) ∧
  (∀ (s x : List Byte) (q : Nat), r64Decode s = .ok x →
    (s.length = 4 * q → x.length = 3 * q) ∧ (s.length ≠ 4 * q + 1) ∧
    (s.length = 4 * q + 2 → x.length = 3 * q + 1) ∧
    (s.length = 4 * q + 3 → x.length = 3 * q + 2)) ∧
  (∀ (s : List Byte) (q : Nat), s.length = 4 * q + 1 → r64Decode s = .error (.truncatedGroup s.length)) ∧
  (∀ (x : List Byte) (c : Byte), c ∈ r64Encode x → (inv c).isSome = true ∧ c ≠ 0x3D#8)

/-- The round trip: decoding what the encoder gives returns the bytes; encoding what the decoder gives returns the symbols
exactly when the discarded bits are zero; and those strings are exactly the ones the encoder can produce (42_radix64 R145). -/
def Obligations.RadixRoundTrip : Prop :=
  (∀ x : List Byte, r64Decode (r64Encode x) = .ok x) ∧
  (∀ s x : List Byte, r64Decode s = .ok x → (r64Encode x = s ↔ discardedZero s = true)) ∧
  (∀ s : List Byte, (∃ x, r64Encode x = s) ↔ (∃ x, r64Decode s = .ok x) ∧ discardedZero s = true)

/-- The decoder, whole (42_radix64 R141). It answers a truncated group exactly for a final group of one symbol; a bad symbol
exactly when, the length being good, a code is outside the alphabet, with the lowest such index; and it decodes every other
string, whatever the discarded bits are. Then four symbols give three bytes and a final three or two give two or one. -/
def Obligations.DecoderReportsLowestBadSymbol : Prop :=
  (∀ s : List Byte,
    (∀ m : Nat, r64Decode s = .error (.truncatedGroup m) ↔ s.length % 4 = 1 ∧ m = s.length) ∧
    (∀ k : Nat, r64Decode s = .error (.symbol k) ↔
      s.length % 4 ≠ 1 ∧ k < s.length ∧ s[k]?.bind inv = none ∧ ∀ j : Nat, j < k → (s[j]?.bind inv).isSome = true) ∧
    (s.length % 4 ≠ 1 → (∀ c ∈ s, (inv c).isSome = true) → r64Decode s = .ok (r64Bytes s))) ∧
  r64Bytes [] = [] ∧
  (∀ (c0 c1 c2 c3 : Byte) (v0 v1 v2 v3 : Sextet) (rest : List Byte),
    inv c0 = some v0 → inv c1 = some v1 → inv c2 = some v2 → inv c3 = some v3 →
    let b0 := v0 ++ v1.extractLsb' 4 2
    let b1 := v1.extractLsb' 0 4 ++ v2.extractLsb' 2 4
    let b2 := v2.extractLsb' 0 2 ++ v3
    r64Bytes (c0 :: c1 :: c2 :: c3 :: rest) = [b0, b1, b2] ++ r64Bytes rest ∧
    r64Bytes [c0, c1, c2] = [b0, b1] ∧
    r64Bytes [c0, c1] = [b0])

/-- The group layout, both ways. Encoding: a group of three bytes gives four symbols, two trailing bytes three, one
trailing byte two, the bits cut from the top and zero-filled (30_encoding R89, 42_radix64 R140, R146). Decoding: four
symbols give three bytes, a final three give two, a final two give one (R141). -/
def Obligations.RadixGroups : Prop :=
  r64Encode [] = [] ∧ r64Decode [] = .ok [] ∧
  (∀ (b0 b1 b2 : Byte) (rest : List Byte),
    let v0 := b0.extractLsb' 2 6
    let v1 (b1 : Byte) := b0.extractLsb' 0 2 ++ b1.extractLsb' 4 4
    let v2 (b2 : Byte) := b1.extractLsb' 0 4 ++ b2.extractLsb' 6 2
    r64Encode (b0 :: b1 :: b2 :: rest) =
      [alphabet v0, alphabet (v1 b1), alphabet (v2 b2), alphabet (b2.extractLsb' 0 6)] ++ r64Encode rest ∧
    r64Encode [b0, b1] = [alphabet v0, alphabet (v1 b1), alphabet (v2 0#8)] ∧
    r64Encode [b0] = [alphabet v0, alphabet (v1 0#8)]) ∧
  (∀ (acc : BitVec 12) (v0 v1 v2 v3 : Sextet),
    let b0 := v0 ++ v1.extractLsb' 4 2
    let b1 := v1.extractLsb' 0 4 ++ v2.extractLsb' 2 4
    let b2 := v2.extractLsb' 0 2 ++ v3
    decodeBits acc 0 [v0, v1, v2, v3] = [b0, b1, b2] ∧
    decodeBits acc 0 [v0, v1, v2] = [b0, b1] ∧
    decodeBits acc 0 [v0, v1] = [b0])

/-- The bytes beyond a codec command's new length keep their old contents, and those below it hold the result
(42_radix64 R142, R143). -/
def Obligations.CodecKeepsBytesBeyondLength : Prop :=
  ∀ (s t : State), s.Ready →
    (s.rawlen.toNat ≤ 48 → exec .r64enc s = .next t → ∀ j, j < 64 →
      t.symlen.toNat = (r64Encode s.newDraw.rawBytes).length ∧
      ∀ free, t.sym.read free j =
        if j < t.symlen.toNat then (r64Encode s.newDraw.rawBytes).getD j 0#8 else s.sym.read free j) ∧
    (t.err = .noError → exec .r64dec s = .next t → ∀ j, j < 48 →
      t.rawlen.toNat = (r64Bytes s.newDraw.symBytes).length ∧
      ∀ free, t.raw.read free j =
        if j < t.rawlen.toNat then (r64Bytes s.newDraw.symBytes).getD j 0#8 else s.raw.read free j)

/-! ## The register window -/

/-- The register map (20_memory R61, R65): the offset of every register as a number, and the reserved ranges; every
register stands at its offset, a multiple of 4 inside the window, and every aligned offset of the window is that of its
register or is reserved. -/
def Obligations.RegisterMapIsOneToOne : Prop :=
  (regOf 0x0000 = .cmd ∧ regOf 0x0004 = .status ∧ regOf 0x0008 = .errinfo ∧ regOf 0x000C = .cost ∧
    regOf 0x0010 = .version ∧ regOf 0x0014 = .keylen ∧ regOf 0x0018 = .iter ∧ regOf 0x001C = .seq ∧
    regOf 0x0020 = .dataL ∧ regOf 0x0024 = .dataR ∧ regOf 0x0028 = .rawlen ∧ regOf 0x002C = .symlen ∧
    (∀ w : Fin 4, regOf (0x0030 + 4 * w) = .saltw w) ∧ (∀ w : Fin 6, regOf (0x0040 + 4 * w) = .digestw w) ∧
    (∀ w : Fin 18, regOf (0x0080 + 4 * w) = .keyw w) ∧ (∀ i : Fin 18, regOf (0x0100 + 4 * i) = .p i) ∧
    (∀ w : Fin 12, regOf (0x0200 + 4 * w) = .raww w) ∧ (∀ w : Fin 16, regOf (0x0240 + 4 * w) = .symw w) ∧
    (∀ (b : Fin 4) (i : Fin 256), regOf (0x1000 + 0x400 * b + 4 * i) = .s b i)) ∧
  (∀ off : Nat, (0x0058 ≤ off ∧ off ≤ 0x007C) ∨ (0x00C8 ≤ off ∧ off ≤ 0x00FC) ∨ (0x0148 ≤ off ∧ off ≤ 0x01FC) ∨
    (0x0230 ≤ off ∧ off ≤ 0x023C) ∨ (0x0280 ≤ off ∧ off ≤ 0x0FFC) → regOf off = .reserved) ∧
  (∀ (r : Reg) (off : Nat), r.offset = some off → off < 0x2000 ∧ off % 4 = 0 ∧ regOf off = r) ∧
  (∀ off : Nat, off < 0x2000 → off % 4 = 0 → (regOf off).offset = some off ∨ regOf off = .reserved)

/-- Reading any register changes nothing of the block: only the word returned and the model's read counter
(20_memory R66). -/
def Obligations.ReadsHaveNoSideEffect : Prop :=
  ∀ (s : State) (rest : List Event) (off : Nat), s.pending = .access (.read .word off) :: rest →
    off < 0x2000 → off % 4 = 0 →
    step s = .next { s with pending := rest, rdata := s.readReg (regOf off), readDraws := s.readDraws + 1 }

/-- A register that is written reads back, reserved bits as 0, while `BUSY = 0`: the four small registers, the data block
and every word of the byte buffers, big-endian (20_memory R61, R62, R65). And a step whose first event is an aligned word
write of the window to anything but `CMD` makes exactly that register write, also while an error is latched (60_exceptions
R212; the schedule is the model's, log 2). -/
def Obligations.WrittenRegistersReadBack : Prop :=
  ∀ (s : State) (v : Word), s.busy = false →
    (∀ (rest : List Event) (off : Nat), s.pending = .access (.write .word off v) :: rest →
      off < 0x2000 → off % 4 = 0 → off ≠ 0 →
      step s = .next (State.hostWrite { s with pending := rest } (regOf off) v)) ∧
    (s.hostWrite .cost v).readReg .cost = v &&& 0xFF#32 ∧
    (s.hostWrite .version v).readReg .version = v &&& 0x7#32 ∧
    (s.hostWrite .keylen v).readReg .keylen = v &&& 0xFF#32 ∧
    (s.hostWrite .rawlen v).readReg .rawlen = v &&& 0xFF#32 ∧
    (s.hostWrite .symlen v).readReg .symlen = v &&& 0xFF#32 ∧
    (s.hostWrite .dataL v).readReg .dataL = v ∧
    (s.hostWrite .dataR v).readReg .dataR = v ∧
    (∀ w, (s.hostWrite (.saltw w) v).readReg (.saltw w) = v) ∧
    (∀ w, (s.hostWrite (.keyw w) v).readReg (.keyw w) = v) ∧
    (∀ w, (s.hostWrite (.raww w) v).readReg (.raww w) = v) ∧
    (∀ w, (s.hostWrite (.symw w) v).readReg (.symw w) = v)

/-- A write of one register other than `CMD` leaves what every other register reads unchanged, while `BUSY = 0` (20_memory
R61, R66). -/
def Obligations.WritesTouchOneRegister : Prop :=
  ∀ (s : State) (r r' : Reg) (v : Word), s.busy = false → r ≠ .cmd → r ≠ r' →
    (s.hostWrite r v).readReg r' = s.readReg r'

/-- A write to a read-only register or a reserved offset is ignored, and a read of `CMD` or of a reserved offset returns 0
while `BUSY = 0` (20_memory R65, R67). -/
def Obligations.WrongDirectionAccesses : Prop :=
  ∀ (s : State) (r : Reg) (v : Word),
    ((r ∈ [Reg.status, .errinfo, .iter, .seq, .reserved] ∨ (∃ w, r = .digestw w) ∨ (∃ i, r = .p i) ∨ (∃ b i, r = .s b i)) →
      s.hostWrite r v = s) ∧
    (s.busy = false → s.readReg .cmd = 0#32 ∧ s.readReg .reserved = 0#32)

/-- While `BUSY = 1` every write is ignored, to `CMD` or to any other register; `STATUS`, `SEQ` and `ITER` read their
current values, and every other register reads a free word (20_memory R68). That `CMD` is one of these, where R67 has it
read 0, is log 10 (DEDUCED); that the word is `Config.freeReadWord` of a counter is log 5 (DESIGN CHOICE). -/
def Obligations.BusyBlockIgnoresWrites : Prop :=
  ∀ (s : State) (rest : List Event), s.busy = true →
    (∀ (off : Nat) (v : Word), s.pending = .access (.write .word off v) :: rest → off < 0x2000 → off % 4 = 0 →
      step s = .next { s with pending := rest }) ∧
    s.readReg .status = s.statusWord ∧ s.readReg .seq = s.seqWord ∧ s.readReg .iter = s.iter ∧
    (∀ r : Reg, r ∉ [Reg.status, .seq, .iter, .reserved] → s.readReg r = Config.freeReadWord s.readDraws)

/-- Bytes that nothing has written, and `P` and `S` while `SV = 0` and not zeroized, read free; an operand byte is the
written byte, or a free byte of the command's own number (20_memory R69; the counters that number the free values are the
model's, log 5, log 6). -/
def Obligations.UnwrittenCellsAreFree : Prop :=
  ∀ s : State, s.busy = false →
    (s.sv = false → s.cipherZeroed = false → ∀ (i : Fin 18) (b : Fin 4) (j : Fin 256),
      s.readReg (.p i) = Config.freeReadWord s.readDraws ∧ s.readReg (.s b j) = Config.freeReadWord s.readDraws) ∧
    (∀ (w : Fin 18) (n : Fin 4), (s.readReg (.keyw w)).extractLsb' (24 - 8 * n) 8 =
      if s.key.written[4 * w.val + n.val] then s.key.bytes[4 * w.val + n.val]
      else (Config.freeReadWord s.readDraws).extractLsb' (24 - 8 * n) 8) ∧
    (∀ (w : Fin 4) (n : Fin 4), (s.readReg (.saltw w)).extractLsb' (24 - 8 * n) 8 =
      if s.salt.written[4 * w.val + n.val] then s.salt.bytes[4 * w.val + n.val]
      else (Config.freeReadWord s.readDraws).extractLsb' (24 - 8 * n) 8) ∧
    (∀ (w : Fin 12) (n : Fin 4), (s.readReg (.raww w)).extractLsb' (24 - 8 * n) 8 =
      if s.raw.written[4 * w.val + n.val] then s.raw.bytes[4 * w.val + n.val]
      else (Config.freeReadWord s.readDraws).extractLsb' (24 - 8 * n) 8) ∧
    (∀ (w : Fin 16) (n : Fin 4), (s.readReg (.symw w)).extractLsb' (24 - 8 * n) 8 =
      if s.sym.written[4 * w.val + n.val] then s.sym.bytes[4 * w.val + n.val]
      else (Config.freeReadWord s.readDraws).extractLsb' (24 - 8 * n) 8) ∧
    (∀ i : Fin 72, i.val < s.keylen.toNat → s.keyBytes[i.val]? =
      some (if s.key.written[i] then s.key.bytes[i] else Config.freeOperandByte s.cmdDraws .key i)) ∧
    (∀ i : Fin 16, s.saltBytes[i.val]? =
      some (if s.salt.written[i] then s.salt.bytes[i] else Config.freeOperandByte s.cmdDraws .salt i)) ∧
    (∀ i : Fin 48, i.val < s.rawlen.toNat → s.rawBytes[i.val]? =
      some (if s.raw.written[i] then s.raw.bytes[i] else Config.freeOperandByte s.cmdDraws .raw i)) ∧
    (∀ i : Fin 64, i.val < s.symlen.toNat → s.symBytes[i.val]? =
      some (if s.sym.written[i] then s.sym.bytes[i] else Config.freeOperandByte s.cmdDraws .sym i))

/-- After `ZEROIZE` every register reads 0 but `STATUS`, which reads 0x00000002, and `SEQ`, which reads 0x00002100
(43_system R161). -/
def Obligations.ZeroizedBlockReadsZero : Prop :=
  ∀ s t : State, s.busy = false → exec .zeroize s = .next t →
    t.readReg .status = 0x00000002#32 ∧ t.readReg .seq = 0x00002100#32 ∧
    ∀ r : Reg, r ≠ .status → r ≠ .seq → t.readReg r = 0#32

/-- `DIGESTW[5]` bits 7:0 read 0, and the other bytes of the six words are the 23 digest bytes in order (10_state R28,
20_memory R62). -/
def Obligations.DigestReadsAsSixWords : Prop :=
  ∀ (s : State) (w : Fin 6) (n : Fin 4), s.busy = false →
    (s.readReg (.digestw w)).extractLsb' (24 - 8 * n) 8 = if h : 4 * w.val + n.val < 23 then s.digest[4 * w.val + n.val] else 0#8

/-! ## Reset, the sequencer and the invariant -/

/-- After reset, also one that stops a running command, every register reads 0 but those whose contents the spec leaves
unspecified, which read a free word: `P`, `S`, `KEY`, `SALT`, `RAW`, `SYM` (70_reset R240, R241; 10_state R40). The model's
own fields stay (log 13). -/
def Obligations.ResetValues : Prop :=
  ∀ (s : State) (rest : List Event), s.pending = .reset :: rest →
    ∃ t, step s = .next t ∧ t.mode2x = s.mode2x ∧ t.pending = rest ∧
      ∀ r : Reg, t.readReg r = match r with
        | .p _ => Config.freeReadWord t.readDraws
        | .s _ _ => Config.freeReadWord t.readDraws
        | .keyw _ => Config.freeReadWord t.readDraws
        | .saltw _ => Config.freeReadWord t.readDraws
        | .raww _ => Config.freeReadWord t.readDraws
        | .symw _ => Config.freeReadWord t.readDraws
        | _ => 0#32

/-- The phase transitions of `DERIVE` (41_key_schedule R125): `P_INIT`, `P_XEKS`, then `P_XKEY` and `P_XSALT` in turn,
`ITER` counted at the end of `P_XSALT`, back to `P_XKEY` while `ITER < 2^COST`, else `P_MAGIC`, and to `IDLE`. -/
def Obligations.DerivePhaseOrder : Prop :=
  ∀ s : State, s.busy = true → s.opc = 0x08#8 →
    match s.phase with
    | .pInit => s.engineStep.phase = .pXeks ∧ s.engineStep.iter = s.iter ∧ s.engineStep.busy = true
    | .pXeks => s.engineStep.phase = .pXkey ∧ s.engineStep.iter = s.iter ∧ s.engineStep.busy = true
    | .pXkey => s.engineStep.phase = .pXsalt ∧ s.engineStep.iter = s.iter ∧ s.engineStep.busy = true
    | .pXsalt => s.engineStep.iter = s.iter + 1#32 ∧ s.engineStep.busy = true ∧
        s.engineStep.phase = if (s.iter + 1#32).toNat < 2 ^ s.cost.toNat then .pXkey else .pMagic
    | .pMagic => s.engineStep.phase = .idle ∧ s.engineStep.busy = false ∧ s.engineStep.done = true ∧
        s.engineStep.iter = s.iter
    | _ => True

/-- A command performed step by step ends in the state that it ends in as one transition: a stepwise machine given a
command's word and nothing more reaches, after the write and as many engine turns as the command has phases, the state that
`exec` gives (41_key_schedule R125). -/
def Obligations.StepwiseRunMatchesExec : Prop :=
  ∀ (s : State) (w : Word) (i : Instr), s.busy = false → decode w = .ok i → s.stepwise = true →
    s.pending = [.access (.write .word 0x0000 w)] →
    runSteps (1 + engineSteps i s) s = exec i { s with pending := [] }

/-- An accepted command is busy for exactly its number of engine steps: `3 + 2·2^COST` for `DERIVE`, none for `CLRERR`, one
for every other (41_key_schedule R125). -/
def Obligations.EngineStepCount : Prop :=
  ∀ (i : Instr) (s : State), (i ≠ .zeroize → s.Ready) → s.busy = false → precheck i s.newDraw = none → ∀ n : Nat,
    ((Nat.iterate State.engineStep n (s.start i)).busy = true ↔ n < engineSteps i s)

/-- The invariant of `Safety.lean` holds after reset. -/
def Obligations.ResetMeetsTheInvariant : Prop := State.reset.Inv

/-- THE INVARIANT IS KEPT BY EVERY STEP, whatever the host does and in either granularity (10_state R31, R33, R34; 20_memory
R69; 30_encoding R82; 41_key_schedule R125). -/
def Obligations.StepKeepsTheInvariant : Prop :=
  ∀ s t : State, s.Inv → step s = .next t → t.Inv

/-- What the host sees of the flags: reserved bits read 0, `ERR` codes 8..15 and `PHASE` codes 10..15 are never shown, in
any state; and in a state that meets the invariant `BUSY` and `DONE` are never both 1, `ERR != 0` implies both are 0, and
`PHASE` is `IDLE` exactly while `BUSY = 0` (10_state R31, R33; 60_exceptions R200). -/
def Obligations.StatusAndSeqWords : Prop :=
  ∀ s : State,
    s.statusWord &&& 0xFFFFFF08#32 = 0#32 ∧ (s.statusWord >>> 4).toNat < 8 ∧
    s.seqWord &&& 0xFFFF00F0#32 = 0#32 ∧ (s.seqWord &&& 0xF#32).toNat < 10 ∧
    (s.Inv →
      s.statusWord &&& 0x3#32 ≠ 0x3#32 ∧
      (s.statusWord &&& 0xF0#32 ≠ 0#32 → s.statusWord &&& 0x3#32 = 0#32) ∧
      (s.statusWord &&& 0x1#32 = 0#32 ↔ s.seqWord &&& 0xF#32 = 0#32))

/-- Only `INIT` sets `SV`: from a state that meets the invariant, a step after which `SV` is newly 1 is a write of `INIT`'s
word to `CMD`, or an engine turn, scheduled or for want of an event, that performs the only phase of `INIT` (10_state R22;
the schedule is the model's, log 2). -/
def Obligations.OnlyInitSetsSv : Prop :=
  ∀ s t : State, s.Inv → step s = .next t → s.sv = false → t.sv = true →
    (∃ rest, s.pending = .access (.write .word 0x0000 0x00000001#32) :: rest) ∨
    ((s.pending = [] ∨ ∃ rest, s.pending = .engine :: rest) ∧
      s.busy = true ∧ s.phase = .pInit ∧ s.opc = 0x01#8)

/-- A host transaction that is not a write to `CMD` changes no part of the cipher state, the digest, the status, the
sequencer or `ITER` (10_state R20, R21; 20_memory R66, R67). -/
def Obligations.OnlyCommandsReachTheEngine : Prop :=
  ∀ (s t : State) (a : Access) (rest : List Event), s.pending = .access a :: rest → step s = .next t →
    (∀ v, a ≠ .write .word 0x0000 v) →
    t.cipher = s.cipher ∧ t.digest = s.digest ∧ t.statusWord = s.statusWord ∧ t.errinfo = s.errinfo ∧
    t.seqWord = s.seqWord ∧ t.iter = s.iter
end

