-- ==== Sys2Proof/Laws/Buffer.lean ====
section
/-! SUPPORT. Byte order and byte buffers: a word and its bytes, a read after a write gives the value written, and a write
leaves every other byte alone (20_memory R62, 30_encoding R85). -/

namespace Sys2Proof.Machine

/-- Byte 0 of `be32` is its first byte. -/
@[simp] theorem wordByte_zero_be32 (b0 b1 b2 b3 : Byte) : wordByte (be32 b0 b1 b2 b3) 0 = b0 := by
  apply BitVec.eq_of_getLsbD_eq
  intro i hi
  interval_cases i <;> simp [wordByte, be32]

/-- Byte 1 of `be32` is its second byte. -/
@[simp] theorem wordByte_one_be32 (b0 b1 b2 b3 : Byte) : wordByte (be32 b0 b1 b2 b3) 1 = b1 := by
  apply BitVec.eq_of_getLsbD_eq
  intro i hi
  interval_cases i <;> simp [wordByte, be32]

/-- Byte 2 of `be32` is its third byte. -/
@[simp] theorem wordByte_two_be32 (b0 b1 b2 b3 : Byte) : wordByte (be32 b0 b1 b2 b3) 2 = b2 := by
  apply BitVec.eq_of_getLsbD_eq
  intro i hi
  interval_cases i <;> simp [wordByte, be32]

/-- Byte 3 of `be32` is its last byte. -/
@[simp] theorem wordByte_three_be32 (b0 b1 b2 b3 : Byte) : wordByte (be32 b0 b1 b2 b3) 3 = b3 := by
  apply BitVec.eq_of_getLsbD_eq
  intro i hi
  interval_cases i <;> simp [wordByte, be32]

/-- A word is the `be32` of its bytes. -/
@[simp] theorem be32_wordByte (w : Word) : be32 (wordByte w 0) (wordByte w 1) (wordByte w 2) (wordByte w 3) = w := by
  apply BitVec.eq_of_getLsbD_eq
  intro i hi
  interval_cases i <;> simp [wordByte, be32]

/-- A byte just written reads back, whatever the free bytes are. -/
theorem Buffer.read_put_same {n : Nat} (buf : Buffer n) (free : Nat → Byte) {i : Nat} (h : i < n) (b : Byte) :
    (buf.put i b).read free i = b := by
  simp [Buffer.read, Buffer.put, h]

/-- Writing a byte leaves every other byte alone. -/
theorem Buffer.read_put_other {n : Nat} (buf : Buffer n) (free : Nat → Byte) {i j : Nat} (h : i ≠ j) (b : Byte) :
    (buf.put i b).read free j = buf.read free j := by
  simp [Buffer.read, Buffer.put, Vector.getElem?_setIfInBounds_ne h]

/-- Writing bytes from `i` on leaves the bytes before `i` alone. -/
theorem Buffer.read_putFrom_before {n : Nat} (buf : Buffer n) (free : Nat → Byte) {i j : Nat} (h : j < i)
    (bs : List Byte) : (buf.putFrom i bs).read free j = buf.read free j := by
  induction bs generalizing buf i with
  | nil => rfl
  | cons b bs ih => rw [Buffer.putFrom, ih _ (by omega), Buffer.read_put_other _ _ (by omega)]

/-- The read of byte `j` after a write of bytes from `i` on: the byte written, or the byte as before. -/
theorem Buffer.read_putFrom {n : Nat} (buf : Buffer n) (free : Nat → Byte) (i : Nat) (bs : List Byte) (j : Nat) :
    (buf.putFrom i bs).read free j =
      if i ≤ j ∧ j < i + bs.length ∧ j < n then bs[j - i]?.getD 0#8 else buf.read free j := by
  induction bs generalizing buf i with
  | nil => simp [Buffer.putFrom]; omega
  | cons b bs ih =>
    rw [Buffer.putFrom, ih]
    by_cases hij : i = j
    · subst hij
      by_cases hn : i < n
      · simp [hn, Buffer.read_put_same]
      · simp [hn, Buffer.read, Buffer.put]
    · rw [Buffer.read_put_other _ _ hij]
      by_cases h : i + 1 ≤ j ∧ j < i + 1 + bs.length ∧ j < n
      · obtain ⟨k, rfl⟩ : ∃ k, j = i + 1 + k := ⟨j - (i + 1), by omega⟩
        have h1 : i + 1 + k - i = k + 1 := by omega
        have h2 : i ≤ i + 1 + k ∧ i + 1 + k < i + (b :: bs).length ∧ i + 1 + k < n := by
          simp only [List.length_cons]; omega
        rw [if_pos h, if_pos h2, h1]
        simp
      · rw [if_neg h, if_neg (by simp only [List.length_cons]; omega)]

/-- What a read sees of a whole buffer that nothing but written bytes is read from does not depend on the free bytes. -/
theorem Buffer.take_written {m : Nat} (buf : Buffer m) (free free' : Nat → Byte) (n : Nat)
    (h : ∀ i, i < n → buf.written[i]?.getD false = true) : buf.take free n = buf.take free' n := by
  apply List.map_congr_left
  intro i hi
  simp [Buffer.read, h i (List.mem_range.mp hi)]

/-- `Buffer.take` gives as many bytes as asked for. -/
@[simp] theorem Buffer.length_take {m : Nat} (buf : Buffer m) (free : Nat → Byte) (n : Nat) :
    (buf.take free n).length = n := by simp [Buffer.take]

/-- The bytes of a zeroized buffer. -/
theorem Buffer.read_zeroed {n : Nat} (free : Nat → Byte) {i : Nat} (h : i < n) :
    (Buffer.zeroed n).read free i = 0#8 := by
  simp [Buffer.read, Buffer.zeroed, h]

/-- Nothing written yet: every byte is free. -/
theorem Buffer.read_unwritten {n : Nat} (free : Nat → Byte) (i : Nat) :
    (Buffer.unwritten n).read free i = free i := by
  by_cases h : i < n <;> simp [Buffer.read, Buffer.unwritten, h]

/-- A word register just written reads back as written (20_memory R62). -/
theorem Buffer.word_putWord_same {n : Nat} (buf : Buffer n) (free v : Word) {w : Nat} (h : 4 * w + 3 < n) :
    (buf.putWord w v).word free w = v := by
  have h0 : 4 * w < n ∧ 4 * w + 1 < n ∧ 4 * w + 2 < n := by omega
  simp [Buffer.word, Buffer.putWord, Buffer.read_putFrom, wordBytes, h, h0]

/-- A write of one word register leaves the others alone (20_memory R62). -/
theorem Buffer.word_putWord_other {n : Nat} (buf : Buffer n) (free v : Word) {w w' : Nat} (h : w ≠ w') :
    (buf.putWord w v).word free w' = buf.word free w' := by
  have hk : ∀ k, k < 4 → ¬ (4 * w ≤ 4 * w' + k ∧ 4 * w' + k < 4 * w + 4 ∧ 4 * w' + k < n) := by omega
  simp only [Buffer.word, Buffer.putWord, Buffer.read_putFrom, wordBytes, List.length_cons, List.length_nil,
    Nat.zero_add, Nat.reduceAdd]
  rw [if_neg (hk 0 (by omega)), if_neg (hk 1 (by omega)), if_neg (hk 2 (by omega)), if_neg (hk 3 (by omega))]

end Sys2Proof.Machine
end

