-- ==== Sys2Proof/Laws/State.lean ====
section
/-! SUPPORT. What every named update of State does to every field, each true by rfl, so that no proof unfolds a record
update; and the operands, checks and status bits that the bookkeeping updates leave alone. -/

namespace Sys2Proof.Machine.State

section fields

variable (s : State)

/-! `newDraw` -/

@[simp] theorem newDraw_cipher : (s.newDraw).cipher = s.cipher := rfl
@[simp] theorem newDraw_cipherZeroed : (s.newDraw).cipherZeroed = s.cipherZeroed := rfl
@[simp] theorem newDraw_sv : (s.newDraw).sv = s.sv := rfl
@[simp] theorem newDraw_busy : (s.newDraw).busy = s.busy := rfl
@[simp] theorem newDraw_done : (s.newDraw).done = s.done := rfl
@[simp] theorem newDraw_err : (s.newDraw).err = s.err := rfl
@[simp] theorem newDraw_errinfo : (s.newDraw).errinfo = s.errinfo := rfl
@[simp] theorem newDraw_phase : (s.newDraw).phase = s.phase := rfl
@[simp] theorem newDraw_opc : (s.newDraw).opc = s.opc := rfl
@[simp] theorem newDraw_key : (s.newDraw).key = s.key := rfl
@[simp] theorem newDraw_keylen : (s.newDraw).keylen = s.keylen := rfl
@[simp] theorem newDraw_salt : (s.newDraw).salt = s.salt := rfl
@[simp] theorem newDraw_cost : (s.newDraw).cost = s.cost := rfl
@[simp] theorem newDraw_version : (s.newDraw).version = s.version := rfl
@[simp] theorem newDraw_dataL : (s.newDraw).dataL = s.dataL := rfl
@[simp] theorem newDraw_dataR : (s.newDraw).dataR = s.dataR := rfl
@[simp] theorem newDraw_digest : (s.newDraw).digest = s.digest := rfl
@[simp] theorem newDraw_raw : (s.newDraw).raw = s.raw := rfl
@[simp] theorem newDraw_rawlen : (s.newDraw).rawlen = s.rawlen := rfl
@[simp] theorem newDraw_sym : (s.newDraw).sym = s.sym := rfl
@[simp] theorem newDraw_symlen : (s.newDraw).symlen = s.symlen := rfl
@[simp] theorem newDraw_iter : (s.newDraw).iter = s.iter := rfl
@[simp] theorem newDraw_mode2x : (s.newDraw).mode2x = s.mode2x := rfl
@[simp] theorem newDraw_rdata : (s.newDraw).rdata = s.rdata := rfl
@[simp] theorem newDraw_pending : (s.newDraw).pending = s.pending := rfl
@[simp] theorem newDraw_stepwise : (s.newDraw).stepwise = s.stepwise := rfl
@[simp] theorem newDraw_readDraws : (s.newDraw).readDraws = s.readDraws := rfl
@[simp] theorem newDraw_cmdDraws : (s.newDraw).cmdDraws = s.cmdDraws + 1 := rfl

/-! `raise` -/

@[simp] theorem raise_cipher (op : Byte) (r : ErrorReport) : (s.raise op r).cipher = s.cipher := rfl
@[simp] theorem raise_cipherZeroed (op : Byte) (r : ErrorReport) : (s.raise op r).cipherZeroed = s.cipherZeroed := rfl
@[simp] theorem raise_sv (op : Byte) (r : ErrorReport) : (s.raise op r).sv = s.sv := rfl
@[simp] theorem raise_busy (op : Byte) (r : ErrorReport) : (s.raise op r).busy = s.busy := rfl
@[simp] theorem raise_done (op : Byte) (r : ErrorReport) : (s.raise op r).done = false := rfl
@[simp] theorem raise_err (op : Byte) (r : ErrorReport) : (s.raise op r).err = r.code := rfl
@[simp] theorem raise_errinfo (op : Byte) (r : ErrorReport) : (s.raise op r).errinfo = errinfoWord r.subcode op r.detail := rfl
@[simp] theorem raise_phase (op : Byte) (r : ErrorReport) : (s.raise op r).phase = s.phase := rfl
@[simp] theorem raise_opc (op : Byte) (r : ErrorReport) : (s.raise op r).opc = s.opc := rfl
@[simp] theorem raise_key (op : Byte) (r : ErrorReport) : (s.raise op r).key = s.key := rfl
@[simp] theorem raise_keylen (op : Byte) (r : ErrorReport) : (s.raise op r).keylen = s.keylen := rfl
@[simp] theorem raise_salt (op : Byte) (r : ErrorReport) : (s.raise op r).salt = s.salt := rfl
@[simp] theorem raise_cost (op : Byte) (r : ErrorReport) : (s.raise op r).cost = s.cost := rfl
@[simp] theorem raise_version (op : Byte) (r : ErrorReport) : (s.raise op r).version = s.version := rfl
@[simp] theorem raise_dataL (op : Byte) (r : ErrorReport) : (s.raise op r).dataL = s.dataL := rfl
@[simp] theorem raise_dataR (op : Byte) (r : ErrorReport) : (s.raise op r).dataR = s.dataR := rfl
@[simp] theorem raise_digest (op : Byte) (r : ErrorReport) : (s.raise op r).digest = s.digest := rfl
@[simp] theorem raise_raw (op : Byte) (r : ErrorReport) : (s.raise op r).raw = s.raw := rfl
@[simp] theorem raise_rawlen (op : Byte) (r : ErrorReport) : (s.raise op r).rawlen = s.rawlen := rfl
@[simp] theorem raise_sym (op : Byte) (r : ErrorReport) : (s.raise op r).sym = s.sym := rfl
@[simp] theorem raise_symlen (op : Byte) (r : ErrorReport) : (s.raise op r).symlen = s.symlen := rfl
@[simp] theorem raise_iter (op : Byte) (r : ErrorReport) : (s.raise op r).iter = s.iter := rfl
@[simp] theorem raise_mode2x (op : Byte) (r : ErrorReport) : (s.raise op r).mode2x = s.mode2x := rfl
@[simp] theorem raise_rdata (op : Byte) (r : ErrorReport) : (s.raise op r).rdata = s.rdata := rfl
@[simp] theorem raise_pending (op : Byte) (r : ErrorReport) : (s.raise op r).pending = s.pending := rfl
@[simp] theorem raise_stepwise (op : Byte) (r : ErrorReport) : (s.raise op r).stepwise = s.stepwise := rfl
@[simp] theorem raise_readDraws (op : Byte) (r : ErrorReport) : (s.raise op r).readDraws = s.readDraws := rfl
@[simp] theorem raise_cmdDraws (op : Byte) (r : ErrorReport) : (s.raise op r).cmdDraws = s.cmdDraws := rfl

/-! `clearError` -/

@[simp] theorem clearError_cipher : (s.clearError).cipher = s.cipher := rfl
@[simp] theorem clearError_cipherZeroed : (s.clearError).cipherZeroed = s.cipherZeroed := rfl
@[simp] theorem clearError_sv : (s.clearError).sv = s.sv := rfl
@[simp] theorem clearError_busy : (s.clearError).busy = s.busy := rfl
@[simp] theorem clearError_done : (s.clearError).done = false := rfl
@[simp] theorem clearError_err : (s.clearError).err = .noError := rfl
@[simp] theorem clearError_errinfo : (s.clearError).errinfo = 0#32 := rfl
@[simp] theorem clearError_phase : (s.clearError).phase = s.phase := rfl
@[simp] theorem clearError_opc : (s.clearError).opc = opcode .clrerr := rfl
@[simp] theorem clearError_key : (s.clearError).key = s.key := rfl
@[simp] theorem clearError_keylen : (s.clearError).keylen = s.keylen := rfl
@[simp] theorem clearError_salt : (s.clearError).salt = s.salt := rfl
@[simp] theorem clearError_cost : (s.clearError).cost = s.cost := rfl
@[simp] theorem clearError_version : (s.clearError).version = s.version := rfl
@[simp] theorem clearError_dataL : (s.clearError).dataL = s.dataL := rfl
@[simp] theorem clearError_dataR : (s.clearError).dataR = s.dataR := rfl
@[simp] theorem clearError_digest : (s.clearError).digest = s.digest := rfl
@[simp] theorem clearError_raw : (s.clearError).raw = s.raw := rfl
@[simp] theorem clearError_rawlen : (s.clearError).rawlen = s.rawlen := rfl
@[simp] theorem clearError_sym : (s.clearError).sym = s.sym := rfl
@[simp] theorem clearError_symlen : (s.clearError).symlen = s.symlen := rfl
@[simp] theorem clearError_iter : (s.clearError).iter = s.iter := rfl
@[simp] theorem clearError_mode2x : (s.clearError).mode2x = s.mode2x := rfl
@[simp] theorem clearError_rdata : (s.clearError).rdata = s.rdata := rfl
@[simp] theorem clearError_pending : (s.clearError).pending = s.pending := rfl
@[simp] theorem clearError_stepwise : (s.clearError).stepwise = s.stepwise := rfl
@[simp] theorem clearError_readDraws : (s.clearError).readDraws = s.readDraws := rfl
@[simp] theorem clearError_cmdDraws : (s.clearError).cmdDraws = s.cmdDraws := rfl

/-! `accept` -/

@[simp] theorem accept_cipher (i : Instr) : (s.accept i).cipher = s.cipher := rfl
@[simp] theorem accept_cipherZeroed (i : Instr) : (s.accept i).cipherZeroed = s.cipherZeroed := rfl
@[simp] theorem accept_sv (i : Instr) : (s.accept i).sv = s.sv := rfl
@[simp] theorem accept_busy (i : Instr) : (s.accept i).busy = true := rfl
@[simp] theorem accept_done (i : Instr) : (s.accept i).done = false := rfl
@[simp] theorem accept_err (i : Instr) : (s.accept i).err = s.err := rfl
@[simp] theorem accept_errinfo (i : Instr) : (s.accept i).errinfo = s.errinfo := rfl
@[simp] theorem accept_phase (i : Instr) : (s.accept i).phase = firstPhase i := rfl
@[simp] theorem accept_opc (i : Instr) : (s.accept i).opc = opcode i := rfl
@[simp] theorem accept_key (i : Instr) : (s.accept i).key = s.key := rfl
@[simp] theorem accept_keylen (i : Instr) : (s.accept i).keylen = s.keylen := rfl
@[simp] theorem accept_salt (i : Instr) : (s.accept i).salt = s.salt := rfl
@[simp] theorem accept_cost (i : Instr) : (s.accept i).cost = s.cost := rfl
@[simp] theorem accept_version (i : Instr) : (s.accept i).version = s.version := rfl
@[simp] theorem accept_dataL (i : Instr) : (s.accept i).dataL = s.dataL := rfl
@[simp] theorem accept_dataR (i : Instr) : (s.accept i).dataR = s.dataR := rfl
@[simp] theorem accept_digest (i : Instr) : (s.accept i).digest = s.digest := rfl
@[simp] theorem accept_raw (i : Instr) : (s.accept i).raw = s.raw := rfl
@[simp] theorem accept_rawlen (i : Instr) : (s.accept i).rawlen = s.rawlen := rfl
@[simp] theorem accept_sym (i : Instr) : (s.accept i).sym = s.sym := rfl
@[simp] theorem accept_symlen (i : Instr) : (s.accept i).symlen = s.symlen := rfl
@[simp] theorem accept_iter (i : Instr) : (s.accept i).iter = s.iter := rfl
@[simp] theorem accept_mode2x (i : Instr) : (s.accept i).mode2x = s.mode2x := rfl
@[simp] theorem accept_rdata (i : Instr) : (s.accept i).rdata = s.rdata := rfl
@[simp] theorem accept_pending (i : Instr) : (s.accept i).pending = s.pending := rfl
@[simp] theorem accept_stepwise (i : Instr) : (s.accept i).stepwise = s.stepwise := rfl
@[simp] theorem accept_readDraws (i : Instr) : (s.accept i).readDraws = s.readDraws := rfl
@[simp] theorem accept_cmdDraws (i : Instr) : (s.accept i).cmdDraws = s.cmdDraws := rfl

/-! `finish` -/

@[simp] theorem finish_cipher : (s.finish).cipher = s.cipher := rfl
@[simp] theorem finish_cipherZeroed : (s.finish).cipherZeroed = s.cipherZeroed := rfl
@[simp] theorem finish_sv : (s.finish).sv = s.sv := rfl
@[simp] theorem finish_busy : (s.finish).busy = false := rfl
@[simp] theorem finish_done : (s.finish).done = true := rfl
@[simp] theorem finish_err : (s.finish).err = s.err := rfl
@[simp] theorem finish_errinfo : (s.finish).errinfo = s.errinfo := rfl
@[simp] theorem finish_phase : (s.finish).phase = .idle := rfl
@[simp] theorem finish_opc : (s.finish).opc = s.opc := rfl
@[simp] theorem finish_key : (s.finish).key = s.key := rfl
@[simp] theorem finish_keylen : (s.finish).keylen = s.keylen := rfl
@[simp] theorem finish_salt : (s.finish).salt = s.salt := rfl
@[simp] theorem finish_cost : (s.finish).cost = s.cost := rfl
@[simp] theorem finish_version : (s.finish).version = s.version := rfl
@[simp] theorem finish_dataL : (s.finish).dataL = s.dataL := rfl
@[simp] theorem finish_dataR : (s.finish).dataR = s.dataR := rfl
@[simp] theorem finish_digest : (s.finish).digest = s.digest := rfl
@[simp] theorem finish_raw : (s.finish).raw = s.raw := rfl
@[simp] theorem finish_rawlen : (s.finish).rawlen = s.rawlen := rfl
@[simp] theorem finish_sym : (s.finish).sym = s.sym := rfl
@[simp] theorem finish_symlen : (s.finish).symlen = s.symlen := rfl
@[simp] theorem finish_iter : (s.finish).iter = s.iter := rfl
@[simp] theorem finish_mode2x : (s.finish).mode2x = s.mode2x := rfl
@[simp] theorem finish_rdata : (s.finish).rdata = s.rdata := rfl
@[simp] theorem finish_pending : (s.finish).pending = s.pending := rfl
@[simp] theorem finish_stepwise : (s.finish).stepwise = s.stepwise := rfl
@[simp] theorem finish_readDraws : (s.finish).readDraws = s.readDraws := rfl
@[simp] theorem finish_cmdDraws : (s.finish).cmdDraws = s.cmdDraws := rfl

/-! `goTo` -/

@[simp] theorem goTo_cipher (p : Phase) : (s.goTo p).cipher = s.cipher := rfl
@[simp] theorem goTo_cipherZeroed (p : Phase) : (s.goTo p).cipherZeroed = s.cipherZeroed := rfl
@[simp] theorem goTo_sv (p : Phase) : (s.goTo p).sv = s.sv := rfl
@[simp] theorem goTo_busy (p : Phase) : (s.goTo p).busy = s.busy := rfl
@[simp] theorem goTo_done (p : Phase) : (s.goTo p).done = s.done := rfl
@[simp] theorem goTo_err (p : Phase) : (s.goTo p).err = s.err := rfl
@[simp] theorem goTo_errinfo (p : Phase) : (s.goTo p).errinfo = s.errinfo := rfl
@[simp] theorem goTo_phase (p : Phase) : (s.goTo p).phase = p := rfl
@[simp] theorem goTo_opc (p : Phase) : (s.goTo p).opc = s.opc := rfl
@[simp] theorem goTo_key (p : Phase) : (s.goTo p).key = s.key := rfl
@[simp] theorem goTo_keylen (p : Phase) : (s.goTo p).keylen = s.keylen := rfl
@[simp] theorem goTo_salt (p : Phase) : (s.goTo p).salt = s.salt := rfl
@[simp] theorem goTo_cost (p : Phase) : (s.goTo p).cost = s.cost := rfl
@[simp] theorem goTo_version (p : Phase) : (s.goTo p).version = s.version := rfl
@[simp] theorem goTo_dataL (p : Phase) : (s.goTo p).dataL = s.dataL := rfl
@[simp] theorem goTo_dataR (p : Phase) : (s.goTo p).dataR = s.dataR := rfl
@[simp] theorem goTo_digest (p : Phase) : (s.goTo p).digest = s.digest := rfl
@[simp] theorem goTo_raw (p : Phase) : (s.goTo p).raw = s.raw := rfl
@[simp] theorem goTo_rawlen (p : Phase) : (s.goTo p).rawlen = s.rawlen := rfl
@[simp] theorem goTo_sym (p : Phase) : (s.goTo p).sym = s.sym := rfl
@[simp] theorem goTo_symlen (p : Phase) : (s.goTo p).symlen = s.symlen := rfl
@[simp] theorem goTo_iter (p : Phase) : (s.goTo p).iter = s.iter := rfl
@[simp] theorem goTo_mode2x (p : Phase) : (s.goTo p).mode2x = s.mode2x := rfl
@[simp] theorem goTo_rdata (p : Phase) : (s.goTo p).rdata = s.rdata := rfl
@[simp] theorem goTo_pending (p : Phase) : (s.goTo p).pending = s.pending := rfl
@[simp] theorem goTo_stepwise (p : Phase) : (s.goTo p).stepwise = s.stepwise := rfl
@[simp] theorem goTo_readDraws (p : Phase) : (s.goTo p).readDraws = s.readDraws := rfl
@[simp] theorem goTo_cmdDraws (p : Phase) : (s.goTo p).cmdDraws = s.cmdDraws := rfl

/-! `loadConstants` -/

@[simp] theorem loadConstants_cipher : (s.loadConstants).cipher = Cipher.initial := rfl
@[simp] theorem loadConstants_cipherZeroed : (s.loadConstants).cipherZeroed = false := rfl
@[simp] theorem loadConstants_sv : (s.loadConstants).sv = s.sv := rfl
@[simp] theorem loadConstants_busy : (s.loadConstants).busy = s.busy := rfl
@[simp] theorem loadConstants_done : (s.loadConstants).done = s.done := rfl
@[simp] theorem loadConstants_err : (s.loadConstants).err = s.err := rfl
@[simp] theorem loadConstants_errinfo : (s.loadConstants).errinfo = s.errinfo := rfl
@[simp] theorem loadConstants_phase : (s.loadConstants).phase = s.phase := rfl
@[simp] theorem loadConstants_opc : (s.loadConstants).opc = s.opc := rfl
@[simp] theorem loadConstants_key : (s.loadConstants).key = s.key := rfl
@[simp] theorem loadConstants_keylen : (s.loadConstants).keylen = s.keylen := rfl
@[simp] theorem loadConstants_salt : (s.loadConstants).salt = s.salt := rfl
@[simp] theorem loadConstants_cost : (s.loadConstants).cost = s.cost := rfl
@[simp] theorem loadConstants_version : (s.loadConstants).version = s.version := rfl
@[simp] theorem loadConstants_dataL : (s.loadConstants).dataL = s.dataL := rfl
@[simp] theorem loadConstants_dataR : (s.loadConstants).dataR = s.dataR := rfl
@[simp] theorem loadConstants_digest : (s.loadConstants).digest = s.digest := rfl
@[simp] theorem loadConstants_raw : (s.loadConstants).raw = s.raw := rfl
@[simp] theorem loadConstants_rawlen : (s.loadConstants).rawlen = s.rawlen := rfl
@[simp] theorem loadConstants_sym : (s.loadConstants).sym = s.sym := rfl
@[simp] theorem loadConstants_symlen : (s.loadConstants).symlen = s.symlen := rfl
@[simp] theorem loadConstants_iter : (s.loadConstants).iter = s.iter := rfl
@[simp] theorem loadConstants_mode2x : (s.loadConstants).mode2x = s.mode2x := rfl
@[simp] theorem loadConstants_rdata : (s.loadConstants).rdata = s.rdata := rfl
@[simp] theorem loadConstants_pending : (s.loadConstants).pending = s.pending := rfl
@[simp] theorem loadConstants_stepwise : (s.loadConstants).stepwise = s.stepwise := rfl
@[simp] theorem loadConstants_readDraws : (s.loadConstants).readDraws = s.readDraws := rfl
@[simp] theorem loadConstants_cmdDraws : (s.loadConstants).cmdDraws = s.cmdDraws := rfl

/-! `withCipher` -/

@[simp] theorem withCipher_cipher (c : Cipher) : (s.withCipher c).cipher = c := rfl
@[simp] theorem withCipher_cipherZeroed (c : Cipher) : (s.withCipher c).cipherZeroed = s.cipherZeroed := rfl
@[simp] theorem withCipher_sv (c : Cipher) : (s.withCipher c).sv = s.sv := rfl
@[simp] theorem withCipher_busy (c : Cipher) : (s.withCipher c).busy = s.busy := rfl
@[simp] theorem withCipher_done (c : Cipher) : (s.withCipher c).done = s.done := rfl
@[simp] theorem withCipher_err (c : Cipher) : (s.withCipher c).err = s.err := rfl
@[simp] theorem withCipher_errinfo (c : Cipher) : (s.withCipher c).errinfo = s.errinfo := rfl
@[simp] theorem withCipher_phase (c : Cipher) : (s.withCipher c).phase = s.phase := rfl
@[simp] theorem withCipher_opc (c : Cipher) : (s.withCipher c).opc = s.opc := rfl
@[simp] theorem withCipher_key (c : Cipher) : (s.withCipher c).key = s.key := rfl
@[simp] theorem withCipher_keylen (c : Cipher) : (s.withCipher c).keylen = s.keylen := rfl
@[simp] theorem withCipher_salt (c : Cipher) : (s.withCipher c).salt = s.salt := rfl
@[simp] theorem withCipher_cost (c : Cipher) : (s.withCipher c).cost = s.cost := rfl
@[simp] theorem withCipher_version (c : Cipher) : (s.withCipher c).version = s.version := rfl
@[simp] theorem withCipher_dataL (c : Cipher) : (s.withCipher c).dataL = s.dataL := rfl
@[simp] theorem withCipher_dataR (c : Cipher) : (s.withCipher c).dataR = s.dataR := rfl
@[simp] theorem withCipher_digest (c : Cipher) : (s.withCipher c).digest = s.digest := rfl
@[simp] theorem withCipher_raw (c : Cipher) : (s.withCipher c).raw = s.raw := rfl
@[simp] theorem withCipher_rawlen (c : Cipher) : (s.withCipher c).rawlen = s.rawlen := rfl
@[simp] theorem withCipher_sym (c : Cipher) : (s.withCipher c).sym = s.sym := rfl
@[simp] theorem withCipher_symlen (c : Cipher) : (s.withCipher c).symlen = s.symlen := rfl
@[simp] theorem withCipher_iter (c : Cipher) : (s.withCipher c).iter = s.iter := rfl
@[simp] theorem withCipher_mode2x (c : Cipher) : (s.withCipher c).mode2x = s.mode2x := rfl
@[simp] theorem withCipher_rdata (c : Cipher) : (s.withCipher c).rdata = s.rdata := rfl
@[simp] theorem withCipher_pending (c : Cipher) : (s.withCipher c).pending = s.pending := rfl
@[simp] theorem withCipher_stepwise (c : Cipher) : (s.withCipher c).stepwise = s.stepwise := rfl
@[simp] theorem withCipher_readDraws (c : Cipher) : (s.withCipher c).readDraws = s.readDraws := rfl
@[simp] theorem withCipher_cmdDraws (c : Cipher) : (s.withCipher c).cmdDraws = s.cmdDraws := rfl

/-! `withData` -/

@[simp] theorem withData_cipher (lr : Word × Word) : (s.withData lr).cipher = s.cipher := rfl
@[simp] theorem withData_cipherZeroed (lr : Word × Word) : (s.withData lr).cipherZeroed = s.cipherZeroed := rfl
@[simp] theorem withData_sv (lr : Word × Word) : (s.withData lr).sv = s.sv := rfl
@[simp] theorem withData_busy (lr : Word × Word) : (s.withData lr).busy = s.busy := rfl
@[simp] theorem withData_done (lr : Word × Word) : (s.withData lr).done = s.done := rfl
@[simp] theorem withData_err (lr : Word × Word) : (s.withData lr).err = s.err := rfl
@[simp] theorem withData_errinfo (lr : Word × Word) : (s.withData lr).errinfo = s.errinfo := rfl
@[simp] theorem withData_phase (lr : Word × Word) : (s.withData lr).phase = s.phase := rfl
@[simp] theorem withData_opc (lr : Word × Word) : (s.withData lr).opc = s.opc := rfl
@[simp] theorem withData_key (lr : Word × Word) : (s.withData lr).key = s.key := rfl
@[simp] theorem withData_keylen (lr : Word × Word) : (s.withData lr).keylen = s.keylen := rfl
@[simp] theorem withData_salt (lr : Word × Word) : (s.withData lr).salt = s.salt := rfl
@[simp] theorem withData_cost (lr : Word × Word) : (s.withData lr).cost = s.cost := rfl
@[simp] theorem withData_version (lr : Word × Word) : (s.withData lr).version = s.version := rfl
@[simp] theorem withData_dataL (lr : Word × Word) : (s.withData lr).dataL = lr.1 := rfl
@[simp] theorem withData_dataR (lr : Word × Word) : (s.withData lr).dataR = lr.2 := rfl
@[simp] theorem withData_digest (lr : Word × Word) : (s.withData lr).digest = s.digest := rfl
@[simp] theorem withData_raw (lr : Word × Word) : (s.withData lr).raw = s.raw := rfl
@[simp] theorem withData_rawlen (lr : Word × Word) : (s.withData lr).rawlen = s.rawlen := rfl
@[simp] theorem withData_sym (lr : Word × Word) : (s.withData lr).sym = s.sym := rfl
@[simp] theorem withData_symlen (lr : Word × Word) : (s.withData lr).symlen = s.symlen := rfl
@[simp] theorem withData_iter (lr : Word × Word) : (s.withData lr).iter = s.iter := rfl
@[simp] theorem withData_mode2x (lr : Word × Word) : (s.withData lr).mode2x = s.mode2x := rfl
@[simp] theorem withData_rdata (lr : Word × Word) : (s.withData lr).rdata = s.rdata := rfl
@[simp] theorem withData_pending (lr : Word × Word) : (s.withData lr).pending = s.pending := rfl
@[simp] theorem withData_stepwise (lr : Word × Word) : (s.withData lr).stepwise = s.stepwise := rfl
@[simp] theorem withData_readDraws (lr : Word × Word) : (s.withData lr).readDraws = s.readDraws := rfl
@[simp] theorem withData_cmdDraws (lr : Word × Word) : (s.withData lr).cmdDraws = s.cmdDraws := rfl

/-! `withDigest` -/

@[simp] theorem withDigest_cipher (d : Vector Byte 23) : (s.withDigest d).cipher = s.cipher := rfl
@[simp] theorem withDigest_cipherZeroed (d : Vector Byte 23) : (s.withDigest d).cipherZeroed = s.cipherZeroed := rfl
@[simp] theorem withDigest_sv (d : Vector Byte 23) : (s.withDigest d).sv = s.sv := rfl
@[simp] theorem withDigest_busy (d : Vector Byte 23) : (s.withDigest d).busy = s.busy := rfl
@[simp] theorem withDigest_done (d : Vector Byte 23) : (s.withDigest d).done = s.done := rfl
@[simp] theorem withDigest_err (d : Vector Byte 23) : (s.withDigest d).err = s.err := rfl
@[simp] theorem withDigest_errinfo (d : Vector Byte 23) : (s.withDigest d).errinfo = s.errinfo := rfl
@[simp] theorem withDigest_phase (d : Vector Byte 23) : (s.withDigest d).phase = s.phase := rfl
@[simp] theorem withDigest_opc (d : Vector Byte 23) : (s.withDigest d).opc = s.opc := rfl
@[simp] theorem withDigest_key (d : Vector Byte 23) : (s.withDigest d).key = s.key := rfl
@[simp] theorem withDigest_keylen (d : Vector Byte 23) : (s.withDigest d).keylen = s.keylen := rfl
@[simp] theorem withDigest_salt (d : Vector Byte 23) : (s.withDigest d).salt = s.salt := rfl
@[simp] theorem withDigest_cost (d : Vector Byte 23) : (s.withDigest d).cost = s.cost := rfl
@[simp] theorem withDigest_version (d : Vector Byte 23) : (s.withDigest d).version = s.version := rfl
@[simp] theorem withDigest_dataL (d : Vector Byte 23) : (s.withDigest d).dataL = s.dataL := rfl
@[simp] theorem withDigest_dataR (d : Vector Byte 23) : (s.withDigest d).dataR = s.dataR := rfl
@[simp] theorem withDigest_digest (d : Vector Byte 23) : (s.withDigest d).digest = d := rfl
@[simp] theorem withDigest_raw (d : Vector Byte 23) : (s.withDigest d).raw = s.raw := rfl
@[simp] theorem withDigest_rawlen (d : Vector Byte 23) : (s.withDigest d).rawlen = s.rawlen := rfl
@[simp] theorem withDigest_sym (d : Vector Byte 23) : (s.withDigest d).sym = s.sym := rfl
@[simp] theorem withDigest_symlen (d : Vector Byte 23) : (s.withDigest d).symlen = s.symlen := rfl
@[simp] theorem withDigest_iter (d : Vector Byte 23) : (s.withDigest d).iter = s.iter := rfl
@[simp] theorem withDigest_mode2x (d : Vector Byte 23) : (s.withDigest d).mode2x = s.mode2x := rfl
@[simp] theorem withDigest_rdata (d : Vector Byte 23) : (s.withDigest d).rdata = s.rdata := rfl
@[simp] theorem withDigest_pending (d : Vector Byte 23) : (s.withDigest d).pending = s.pending := rfl
@[simp] theorem withDigest_stepwise (d : Vector Byte 23) : (s.withDigest d).stepwise = s.stepwise := rfl
@[simp] theorem withDigest_readDraws (d : Vector Byte 23) : (s.withDigest d).readDraws = s.readDraws := rfl
@[simp] theorem withDigest_cmdDraws (d : Vector Byte 23) : (s.withDigest d).cmdDraws = s.cmdDraws := rfl

/-! `withIter` -/

@[simp] theorem withIter_cipher (n : Word) : (s.withIter n).cipher = s.cipher := rfl
@[simp] theorem withIter_cipherZeroed (n : Word) : (s.withIter n).cipherZeroed = s.cipherZeroed := rfl
@[simp] theorem withIter_sv (n : Word) : (s.withIter n).sv = s.sv := rfl
@[simp] theorem withIter_busy (n : Word) : (s.withIter n).busy = s.busy := rfl
@[simp] theorem withIter_done (n : Word) : (s.withIter n).done = s.done := rfl
@[simp] theorem withIter_err (n : Word) : (s.withIter n).err = s.err := rfl
@[simp] theorem withIter_errinfo (n : Word) : (s.withIter n).errinfo = s.errinfo := rfl
@[simp] theorem withIter_phase (n : Word) : (s.withIter n).phase = s.phase := rfl
@[simp] theorem withIter_opc (n : Word) : (s.withIter n).opc = s.opc := rfl
@[simp] theorem withIter_key (n : Word) : (s.withIter n).key = s.key := rfl
@[simp] theorem withIter_keylen (n : Word) : (s.withIter n).keylen = s.keylen := rfl
@[simp] theorem withIter_salt (n : Word) : (s.withIter n).salt = s.salt := rfl
@[simp] theorem withIter_cost (n : Word) : (s.withIter n).cost = s.cost := rfl
@[simp] theorem withIter_version (n : Word) : (s.withIter n).version = s.version := rfl
@[simp] theorem withIter_dataL (n : Word) : (s.withIter n).dataL = s.dataL := rfl
@[simp] theorem withIter_dataR (n : Word) : (s.withIter n).dataR = s.dataR := rfl
@[simp] theorem withIter_digest (n : Word) : (s.withIter n).digest = s.digest := rfl
@[simp] theorem withIter_raw (n : Word) : (s.withIter n).raw = s.raw := rfl
@[simp] theorem withIter_rawlen (n : Word) : (s.withIter n).rawlen = s.rawlen := rfl
@[simp] theorem withIter_sym (n : Word) : (s.withIter n).sym = s.sym := rfl
@[simp] theorem withIter_symlen (n : Word) : (s.withIter n).symlen = s.symlen := rfl
@[simp] theorem withIter_iter (n : Word) : (s.withIter n).iter = n := rfl
@[simp] theorem withIter_mode2x (n : Word) : (s.withIter n).mode2x = s.mode2x := rfl
@[simp] theorem withIter_rdata (n : Word) : (s.withIter n).rdata = s.rdata := rfl
@[simp] theorem withIter_pending (n : Word) : (s.withIter n).pending = s.pending := rfl
@[simp] theorem withIter_stepwise (n : Word) : (s.withIter n).stepwise = s.stepwise := rfl
@[simp] theorem withIter_readDraws (n : Word) : (s.withIter n).readDraws = s.readDraws := rfl
@[simp] theorem withIter_cmdDraws (n : Word) : (s.withIter n).cmdDraws = s.cmdDraws := rfl

/-! `withSymbols` -/

@[simp] theorem withSymbols_cipher (out : List Byte) : (s.withSymbols out).cipher = s.cipher := rfl
@[simp] theorem withSymbols_cipherZeroed (out : List Byte) : (s.withSymbols out).cipherZeroed = s.cipherZeroed := rfl
@[simp] theorem withSymbols_sv (out : List Byte) : (s.withSymbols out).sv = s.sv := rfl
@[simp] theorem withSymbols_busy (out : List Byte) : (s.withSymbols out).busy = s.busy := rfl
@[simp] theorem withSymbols_done (out : List Byte) : (s.withSymbols out).done = s.done := rfl
@[simp] theorem withSymbols_err (out : List Byte) : (s.withSymbols out).err = s.err := rfl
@[simp] theorem withSymbols_errinfo (out : List Byte) : (s.withSymbols out).errinfo = s.errinfo := rfl
@[simp] theorem withSymbols_phase (out : List Byte) : (s.withSymbols out).phase = s.phase := rfl
@[simp] theorem withSymbols_opc (out : List Byte) : (s.withSymbols out).opc = s.opc := rfl
@[simp] theorem withSymbols_key (out : List Byte) : (s.withSymbols out).key = s.key := rfl
@[simp] theorem withSymbols_keylen (out : List Byte) : (s.withSymbols out).keylen = s.keylen := rfl
@[simp] theorem withSymbols_salt (out : List Byte) : (s.withSymbols out).salt = s.salt := rfl
@[simp] theorem withSymbols_cost (out : List Byte) : (s.withSymbols out).cost = s.cost := rfl
@[simp] theorem withSymbols_version (out : List Byte) : (s.withSymbols out).version = s.version := rfl
@[simp] theorem withSymbols_dataL (out : List Byte) : (s.withSymbols out).dataL = s.dataL := rfl
@[simp] theorem withSymbols_dataR (out : List Byte) : (s.withSymbols out).dataR = s.dataR := rfl
@[simp] theorem withSymbols_digest (out : List Byte) : (s.withSymbols out).digest = s.digest := rfl
@[simp] theorem withSymbols_raw (out : List Byte) : (s.withSymbols out).raw = s.raw := rfl
@[simp] theorem withSymbols_rawlen (out : List Byte) : (s.withSymbols out).rawlen = s.rawlen := rfl
@[simp] theorem withSymbols_sym (out : List Byte) : (s.withSymbols out).sym = s.sym.putFrom 0 out := rfl
@[simp] theorem withSymbols_symlen (out : List Byte) : (s.withSymbols out).symlen = BitVec.ofNat 8 out.length := rfl
@[simp] theorem withSymbols_iter (out : List Byte) : (s.withSymbols out).iter = s.iter := rfl
@[simp] theorem withSymbols_mode2x (out : List Byte) : (s.withSymbols out).mode2x = s.mode2x := rfl
@[simp] theorem withSymbols_rdata (out : List Byte) : (s.withSymbols out).rdata = s.rdata := rfl
@[simp] theorem withSymbols_pending (out : List Byte) : (s.withSymbols out).pending = s.pending := rfl
@[simp] theorem withSymbols_stepwise (out : List Byte) : (s.withSymbols out).stepwise = s.stepwise := rfl
@[simp] theorem withSymbols_readDraws (out : List Byte) : (s.withSymbols out).readDraws = s.readDraws := rfl
@[simp] theorem withSymbols_cmdDraws (out : List Byte) : (s.withSymbols out).cmdDraws = s.cmdDraws := rfl

/-! `withRawBytes` -/

@[simp] theorem withRawBytes_cipher (out : List Byte) : (s.withRawBytes out).cipher = s.cipher := rfl
@[simp] theorem withRawBytes_cipherZeroed (out : List Byte) : (s.withRawBytes out).cipherZeroed = s.cipherZeroed := rfl
@[simp] theorem withRawBytes_sv (out : List Byte) : (s.withRawBytes out).sv = s.sv := rfl
@[simp] theorem withRawBytes_busy (out : List Byte) : (s.withRawBytes out).busy = s.busy := rfl
@[simp] theorem withRawBytes_done (out : List Byte) : (s.withRawBytes out).done = s.done := rfl
@[simp] theorem withRawBytes_err (out : List Byte) : (s.withRawBytes out).err = s.err := rfl
@[simp] theorem withRawBytes_errinfo (out : List Byte) : (s.withRawBytes out).errinfo = s.errinfo := rfl
@[simp] theorem withRawBytes_phase (out : List Byte) : (s.withRawBytes out).phase = s.phase := rfl
@[simp] theorem withRawBytes_opc (out : List Byte) : (s.withRawBytes out).opc = s.opc := rfl
@[simp] theorem withRawBytes_key (out : List Byte) : (s.withRawBytes out).key = s.key := rfl
@[simp] theorem withRawBytes_keylen (out : List Byte) : (s.withRawBytes out).keylen = s.keylen := rfl
@[simp] theorem withRawBytes_salt (out : List Byte) : (s.withRawBytes out).salt = s.salt := rfl
@[simp] theorem withRawBytes_cost (out : List Byte) : (s.withRawBytes out).cost = s.cost := rfl
@[simp] theorem withRawBytes_version (out : List Byte) : (s.withRawBytes out).version = s.version := rfl
@[simp] theorem withRawBytes_dataL (out : List Byte) : (s.withRawBytes out).dataL = s.dataL := rfl
@[simp] theorem withRawBytes_dataR (out : List Byte) : (s.withRawBytes out).dataR = s.dataR := rfl
@[simp] theorem withRawBytes_digest (out : List Byte) : (s.withRawBytes out).digest = s.digest := rfl
@[simp] theorem withRawBytes_raw (out : List Byte) : (s.withRawBytes out).raw = s.raw.putFrom 0 out := rfl
@[simp] theorem withRawBytes_rawlen (out : List Byte) : (s.withRawBytes out).rawlen = BitVec.ofNat 8 out.length := rfl
@[simp] theorem withRawBytes_sym (out : List Byte) : (s.withRawBytes out).sym = s.sym := rfl
@[simp] theorem withRawBytes_symlen (out : List Byte) : (s.withRawBytes out).symlen = s.symlen := rfl
@[simp] theorem withRawBytes_iter (out : List Byte) : (s.withRawBytes out).iter = s.iter := rfl
@[simp] theorem withRawBytes_mode2x (out : List Byte) : (s.withRawBytes out).mode2x = s.mode2x := rfl
@[simp] theorem withRawBytes_rdata (out : List Byte) : (s.withRawBytes out).rdata = s.rdata := rfl
@[simp] theorem withRawBytes_pending (out : List Byte) : (s.withRawBytes out).pending = s.pending := rfl
@[simp] theorem withRawBytes_stepwise (out : List Byte) : (s.withRawBytes out).stepwise = s.stepwise := rfl
@[simp] theorem withRawBytes_readDraws (out : List Byte) : (s.withRawBytes out).readDraws = s.readDraws := rfl
@[simp] theorem withRawBytes_cmdDraws (out : List Byte) : (s.withRawBytes out).cmdDraws = s.cmdDraws := rfl

/-! `initWork` -/

@[simp] theorem initWork_cipher : (s.initWork).cipher = Cipher.initial := rfl
@[simp] theorem initWork_cipherZeroed : (s.initWork).cipherZeroed = false := rfl
@[simp] theorem initWork_sv : (s.initWork).sv = true := rfl
@[simp] theorem initWork_busy : (s.initWork).busy = s.busy := rfl
@[simp] theorem initWork_done : (s.initWork).done = s.done := rfl
@[simp] theorem initWork_err : (s.initWork).err = s.err := rfl
@[simp] theorem initWork_errinfo : (s.initWork).errinfo = s.errinfo := rfl
@[simp] theorem initWork_phase : (s.initWork).phase = s.phase := rfl
@[simp] theorem initWork_opc : (s.initWork).opc = s.opc := rfl
@[simp] theorem initWork_key : (s.initWork).key = s.key := rfl
@[simp] theorem initWork_keylen : (s.initWork).keylen = s.keylen := rfl
@[simp] theorem initWork_salt : (s.initWork).salt = s.salt := rfl
@[simp] theorem initWork_cost : (s.initWork).cost = s.cost := rfl
@[simp] theorem initWork_version : (s.initWork).version = s.version := rfl
@[simp] theorem initWork_dataL : (s.initWork).dataL = s.dataL := rfl
@[simp] theorem initWork_dataR : (s.initWork).dataR = s.dataR := rfl
@[simp] theorem initWork_digest : (s.initWork).digest = s.digest := rfl
@[simp] theorem initWork_raw : (s.initWork).raw = s.raw := rfl
@[simp] theorem initWork_rawlen : (s.initWork).rawlen = s.rawlen := rfl
@[simp] theorem initWork_sym : (s.initWork).sym = s.sym := rfl
@[simp] theorem initWork_symlen : (s.initWork).symlen = s.symlen := rfl
@[simp] theorem initWork_iter : (s.initWork).iter = s.iter := rfl
@[simp] theorem initWork_mode2x : (s.initWork).mode2x = s.mode2x := rfl
@[simp] theorem initWork_rdata : (s.initWork).rdata = s.rdata := rfl
@[simp] theorem initWork_pending : (s.initWork).pending = s.pending := rfl
@[simp] theorem initWork_stepwise : (s.initWork).stepwise = s.stepwise := rfl
@[simp] theorem initWork_readDraws : (s.initWork).readDraws = s.readDraws := rfl
@[simp] theorem initWork_cmdDraws : (s.initWork).cmdDraws = s.cmdDraws := rfl

/-! `discardCipher` -/

@[simp] theorem discardCipher_cipher : (s.discardCipher).cipher = freeCipher s.cmdDraws := rfl
@[simp] theorem discardCipher_cipherZeroed : (s.discardCipher).cipherZeroed = s.cipherZeroed := rfl
@[simp] theorem discardCipher_sv : (s.discardCipher).sv = false := rfl
@[simp] theorem discardCipher_busy : (s.discardCipher).busy = s.busy := rfl
@[simp] theorem discardCipher_done : (s.discardCipher).done = s.done := rfl
@[simp] theorem discardCipher_err : (s.discardCipher).err = s.err := rfl
@[simp] theorem discardCipher_errinfo : (s.discardCipher).errinfo = s.errinfo := rfl
@[simp] theorem discardCipher_phase : (s.discardCipher).phase = s.phase := rfl
@[simp] theorem discardCipher_opc : (s.discardCipher).opc = s.opc := rfl
@[simp] theorem discardCipher_key : (s.discardCipher).key = s.key := rfl
@[simp] theorem discardCipher_keylen : (s.discardCipher).keylen = s.keylen := rfl
@[simp] theorem discardCipher_salt : (s.discardCipher).salt = s.salt := rfl
@[simp] theorem discardCipher_cost : (s.discardCipher).cost = s.cost := rfl
@[simp] theorem discardCipher_version : (s.discardCipher).version = s.version := rfl
@[simp] theorem discardCipher_dataL : (s.discardCipher).dataL = s.dataL := rfl
@[simp] theorem discardCipher_dataR : (s.discardCipher).dataR = s.dataR := rfl
@[simp] theorem discardCipher_digest : (s.discardCipher).digest = s.digest := rfl
@[simp] theorem discardCipher_raw : (s.discardCipher).raw = s.raw := rfl
@[simp] theorem discardCipher_rawlen : (s.discardCipher).rawlen = s.rawlen := rfl
@[simp] theorem discardCipher_sym : (s.discardCipher).sym = s.sym := rfl
@[simp] theorem discardCipher_symlen : (s.discardCipher).symlen = s.symlen := rfl
@[simp] theorem discardCipher_iter : (s.discardCipher).iter = s.iter := rfl
@[simp] theorem discardCipher_mode2x : (s.discardCipher).mode2x = s.mode2x := rfl
@[simp] theorem discardCipher_rdata : (s.discardCipher).rdata = s.rdata := rfl
@[simp] theorem discardCipher_pending : (s.discardCipher).pending = s.pending := rfl
@[simp] theorem discardCipher_stepwise : (s.discardCipher).stepwise = s.stepwise := rfl
@[simp] theorem discardCipher_readDraws : (s.discardCipher).readDraws = s.readDraws := rfl
@[simp] theorem discardCipher_cmdDraws : (s.discardCipher).cmdDraws = s.cmdDraws := rfl

/-! `zeroizeWork` -/

@[simp] theorem zeroizeWork_cipher : (s.zeroizeWork).cipher = Cipher.zero := rfl
@[simp] theorem zeroizeWork_cipherZeroed : (s.zeroizeWork).cipherZeroed = true := rfl
@[simp] theorem zeroizeWork_sv : (s.zeroizeWork).sv = false := rfl
@[simp] theorem zeroizeWork_busy : (s.zeroizeWork).busy = s.busy := rfl
@[simp] theorem zeroizeWork_done : (s.zeroizeWork).done = s.done := rfl
@[simp] theorem zeroizeWork_err : (s.zeroizeWork).err = .noError := rfl
@[simp] theorem zeroizeWork_errinfo : (s.zeroizeWork).errinfo = 0#32 := rfl
@[simp] theorem zeroizeWork_phase : (s.zeroizeWork).phase = s.phase := rfl
@[simp] theorem zeroizeWork_opc : (s.zeroizeWork).opc = s.opc := rfl
@[simp] theorem zeroizeWork_key : (s.zeroizeWork).key = Buffer.zeroed 72 := rfl
@[simp] theorem zeroizeWork_keylen : (s.zeroizeWork).keylen = 0#8 := rfl
@[simp] theorem zeroizeWork_salt : (s.zeroizeWork).salt = Buffer.zeroed 16 := rfl
@[simp] theorem zeroizeWork_cost : (s.zeroizeWork).cost = 0#8 := rfl
@[simp] theorem zeroizeWork_version : (s.zeroizeWork).version = 0#3 := rfl
@[simp] theorem zeroizeWork_dataL : (s.zeroizeWork).dataL = 0#32 := rfl
@[simp] theorem zeroizeWork_dataR : (s.zeroizeWork).dataR = 0#32 := rfl
@[simp] theorem zeroizeWork_digest : (s.zeroizeWork).digest = Vector.replicate 23 0#8 := rfl
@[simp] theorem zeroizeWork_raw : (s.zeroizeWork).raw = Buffer.zeroed 48 := rfl
@[simp] theorem zeroizeWork_rawlen : (s.zeroizeWork).rawlen = 0#8 := rfl
@[simp] theorem zeroizeWork_sym : (s.zeroizeWork).sym = Buffer.zeroed 64 := rfl
@[simp] theorem zeroizeWork_symlen : (s.zeroizeWork).symlen = 0#8 := rfl
@[simp] theorem zeroizeWork_iter : (s.zeroizeWork).iter = 0#32 := rfl
@[simp] theorem zeroizeWork_mode2x : (s.zeroizeWork).mode2x = s.mode2x := rfl
@[simp] theorem zeroizeWork_rdata : (s.zeroizeWork).rdata = s.rdata := rfl
@[simp] theorem zeroizeWork_pending : (s.zeroizeWork).pending = s.pending := rfl
@[simp] theorem zeroizeWork_stepwise : (s.zeroizeWork).stepwise = s.stepwise := rfl
@[simp] theorem zeroizeWork_readDraws : (s.zeroizeWork).readDraws = s.readDraws := rfl
@[simp] theorem zeroizeWork_cmdDraws : (s.zeroizeWork).cmdDraws = s.cmdDraws := rfl

/-! `hostRead` -/

@[simp] theorem hostRead_cipher (r : Reg) : (s.hostRead r).cipher = s.cipher := rfl
@[simp] theorem hostRead_cipherZeroed (r : Reg) : (s.hostRead r).cipherZeroed = s.cipherZeroed := rfl
@[simp] theorem hostRead_sv (r : Reg) : (s.hostRead r).sv = s.sv := rfl
@[simp] theorem hostRead_busy (r : Reg) : (s.hostRead r).busy = s.busy := rfl
@[simp] theorem hostRead_done (r : Reg) : (s.hostRead r).done = s.done := rfl
@[simp] theorem hostRead_err (r : Reg) : (s.hostRead r).err = s.err := rfl
@[simp] theorem hostRead_errinfo (r : Reg) : (s.hostRead r).errinfo = s.errinfo := rfl
@[simp] theorem hostRead_phase (r : Reg) : (s.hostRead r).phase = s.phase := rfl
@[simp] theorem hostRead_opc (r : Reg) : (s.hostRead r).opc = s.opc := rfl
@[simp] theorem hostRead_key (r : Reg) : (s.hostRead r).key = s.key := rfl
@[simp] theorem hostRead_keylen (r : Reg) : (s.hostRead r).keylen = s.keylen := rfl
@[simp] theorem hostRead_salt (r : Reg) : (s.hostRead r).salt = s.salt := rfl
@[simp] theorem hostRead_cost (r : Reg) : (s.hostRead r).cost = s.cost := rfl
@[simp] theorem hostRead_version (r : Reg) : (s.hostRead r).version = s.version := rfl
@[simp] theorem hostRead_dataL (r : Reg) : (s.hostRead r).dataL = s.dataL := rfl
@[simp] theorem hostRead_dataR (r : Reg) : (s.hostRead r).dataR = s.dataR := rfl
@[simp] theorem hostRead_digest (r : Reg) : (s.hostRead r).digest = s.digest := rfl
@[simp] theorem hostRead_raw (r : Reg) : (s.hostRead r).raw = s.raw := rfl
@[simp] theorem hostRead_rawlen (r : Reg) : (s.hostRead r).rawlen = s.rawlen := rfl
@[simp] theorem hostRead_sym (r : Reg) : (s.hostRead r).sym = s.sym := rfl
@[simp] theorem hostRead_symlen (r : Reg) : (s.hostRead r).symlen = s.symlen := rfl
@[simp] theorem hostRead_iter (r : Reg) : (s.hostRead r).iter = s.iter := rfl
@[simp] theorem hostRead_mode2x (r : Reg) : (s.hostRead r).mode2x = s.mode2x := rfl
@[simp] theorem hostRead_rdata (r : Reg) : (s.hostRead r).rdata = s.readReg r := rfl
@[simp] theorem hostRead_pending (r : Reg) : (s.hostRead r).pending = s.pending := rfl
@[simp] theorem hostRead_stepwise (r : Reg) : (s.hostRead r).stepwise = s.stepwise := rfl
@[simp] theorem hostRead_readDraws (r : Reg) : (s.hostRead r).readDraws = s.readDraws + 1 := rfl
@[simp] theorem hostRead_cmdDraws (r : Reg) : (s.hostRead r).cmdDraws = s.cmdDraws := rfl

/-! `queueCommand` -/

@[simp] theorem queueCommand_cipher (w : Word) : (s.queueCommand w).cipher = s.cipher := rfl
@[simp] theorem queueCommand_cipherZeroed (w : Word) : (s.queueCommand w).cipherZeroed = s.cipherZeroed := rfl
@[simp] theorem queueCommand_sv (w : Word) : (s.queueCommand w).sv = s.sv := rfl
@[simp] theorem queueCommand_busy (w : Word) : (s.queueCommand w).busy = s.busy := rfl
@[simp] theorem queueCommand_done (w : Word) : (s.queueCommand w).done = s.done := rfl
@[simp] theorem queueCommand_err (w : Word) : (s.queueCommand w).err = s.err := rfl
@[simp] theorem queueCommand_errinfo (w : Word) : (s.queueCommand w).errinfo = s.errinfo := rfl
@[simp] theorem queueCommand_phase (w : Word) : (s.queueCommand w).phase = s.phase := rfl
@[simp] theorem queueCommand_opc (w : Word) : (s.queueCommand w).opc = s.opc := rfl
@[simp] theorem queueCommand_key (w : Word) : (s.queueCommand w).key = s.key := rfl
@[simp] theorem queueCommand_keylen (w : Word) : (s.queueCommand w).keylen = s.keylen := rfl
@[simp] theorem queueCommand_salt (w : Word) : (s.queueCommand w).salt = s.salt := rfl
@[simp] theorem queueCommand_cost (w : Word) : (s.queueCommand w).cost = s.cost := rfl
@[simp] theorem queueCommand_version (w : Word) : (s.queueCommand w).version = s.version := rfl
@[simp] theorem queueCommand_dataL (w : Word) : (s.queueCommand w).dataL = s.dataL := rfl
@[simp] theorem queueCommand_dataR (w : Word) : (s.queueCommand w).dataR = s.dataR := rfl
@[simp] theorem queueCommand_digest (w : Word) : (s.queueCommand w).digest = s.digest := rfl
@[simp] theorem queueCommand_raw (w : Word) : (s.queueCommand w).raw = s.raw := rfl
@[simp] theorem queueCommand_rawlen (w : Word) : (s.queueCommand w).rawlen = s.rawlen := rfl
@[simp] theorem queueCommand_sym (w : Word) : (s.queueCommand w).sym = s.sym := rfl
@[simp] theorem queueCommand_symlen (w : Word) : (s.queueCommand w).symlen = s.symlen := rfl
@[simp] theorem queueCommand_iter (w : Word) : (s.queueCommand w).iter = s.iter := rfl
@[simp] theorem queueCommand_mode2x (w : Word) : (s.queueCommand w).mode2x = s.mode2x := rfl
@[simp] theorem queueCommand_rdata (w : Word) : (s.queueCommand w).rdata = s.rdata := rfl
@[simp] theorem queueCommand_pending (w : Word) : (s.queueCommand w).pending = .access (.write .word 0 w) :: s.pending := rfl
@[simp] theorem queueCommand_stepwise (w : Word) : (s.queueCommand w).stepwise = false := rfl
@[simp] theorem queueCommand_readDraws (w : Word) : (s.queueCommand w).readDraws = s.readDraws := rfl
@[simp] theorem queueCommand_cmdDraws (w : Word) : (s.queueCommand w).cmdDraws = s.cmdDraws := rfl

/-! `resetBlock` -/

@[simp] theorem resetBlock_cipher : s.resetBlock.cipher = State.reset.cipher := rfl
@[simp] theorem resetBlock_cipherZeroed : s.resetBlock.cipherZeroed = State.reset.cipherZeroed := rfl
@[simp] theorem resetBlock_sv : s.resetBlock.sv = State.reset.sv := rfl
@[simp] theorem resetBlock_busy : s.resetBlock.busy = State.reset.busy := rfl
@[simp] theorem resetBlock_done : s.resetBlock.done = State.reset.done := rfl
@[simp] theorem resetBlock_err : s.resetBlock.err = State.reset.err := rfl
@[simp] theorem resetBlock_errinfo : s.resetBlock.errinfo = State.reset.errinfo := rfl
@[simp] theorem resetBlock_phase : s.resetBlock.phase = State.reset.phase := rfl
@[simp] theorem resetBlock_opc : s.resetBlock.opc = State.reset.opc := rfl
@[simp] theorem resetBlock_key : s.resetBlock.key = State.reset.key := rfl
@[simp] theorem resetBlock_keylen : s.resetBlock.keylen = State.reset.keylen := rfl
@[simp] theorem resetBlock_salt : s.resetBlock.salt = State.reset.salt := rfl
@[simp] theorem resetBlock_cost : s.resetBlock.cost = State.reset.cost := rfl
@[simp] theorem resetBlock_version : s.resetBlock.version = State.reset.version := rfl
@[simp] theorem resetBlock_dataL : s.resetBlock.dataL = State.reset.dataL := rfl
@[simp] theorem resetBlock_dataR : s.resetBlock.dataR = State.reset.dataR := rfl
@[simp] theorem resetBlock_digest : s.resetBlock.digest = State.reset.digest := rfl
@[simp] theorem resetBlock_raw : s.resetBlock.raw = State.reset.raw := rfl
@[simp] theorem resetBlock_rawlen : s.resetBlock.rawlen = State.reset.rawlen := rfl
@[simp] theorem resetBlock_sym : s.resetBlock.sym = State.reset.sym := rfl
@[simp] theorem resetBlock_symlen : s.resetBlock.symlen = State.reset.symlen := rfl
@[simp] theorem resetBlock_iter : s.resetBlock.iter = State.reset.iter := rfl
@[simp] theorem resetBlock_mode2x : s.resetBlock.mode2x = s.mode2x := rfl
@[simp] theorem resetBlock_rdata : s.resetBlock.rdata = s.rdata := rfl
@[simp] theorem resetBlock_pending : s.resetBlock.pending = s.pending := rfl
@[simp] theorem resetBlock_stepwise : s.resetBlock.stepwise = s.stepwise := rfl
@[simp] theorem resetBlock_readDraws : s.resetBlock.readDraws = s.readDraws := rfl
@[simp] theorem resetBlock_cmdDraws : s.resetBlock.cmdDraws = s.cmdDraws := rfl

/-! Operands seen through the updates that do not write them. -/

@[simp] theorem newDraw_versionReserved : (s.newDraw).versionReserved = s.versionReserved := rfl
@[simp] theorem newDraw_costOutOfRange : (s.newDraw).costOutOfRange = s.costOutOfRange := rfl
@[simp] theorem raise_keyBytes (op : Byte) (r : ErrorReport) : (s.raise op r).keyBytes = s.keyBytes := rfl
@[simp] theorem raise_saltBytes (op : Byte) (r : ErrorReport) : (s.raise op r).saltBytes = s.saltBytes := rfl
@[simp] theorem raise_rawBytes (op : Byte) (r : ErrorReport) : (s.raise op r).rawBytes = s.rawBytes := rfl
@[simp] theorem raise_symBytes (op : Byte) (r : ErrorReport) : (s.raise op r).symBytes = s.symBytes := rfl
@[simp] theorem raise_versionReserved (op : Byte) (r : ErrorReport) : (s.raise op r).versionReserved = s.versionReserved := rfl
@[simp] theorem raise_costOutOfRange (op : Byte) (r : ErrorReport) : (s.raise op r).costOutOfRange = s.costOutOfRange := rfl
@[simp] theorem clearError_keyBytes : (s.clearError).keyBytes = s.keyBytes := rfl
@[simp] theorem clearError_saltBytes : (s.clearError).saltBytes = s.saltBytes := rfl
@[simp] theorem clearError_rawBytes : (s.clearError).rawBytes = s.rawBytes := rfl
@[simp] theorem clearError_symBytes : (s.clearError).symBytes = s.symBytes := rfl
@[simp] theorem clearError_versionReserved : (s.clearError).versionReserved = s.versionReserved := rfl
@[simp] theorem clearError_costOutOfRange : (s.clearError).costOutOfRange = s.costOutOfRange := rfl
@[simp] theorem accept_keyBytes (i : Instr) : (s.accept i).keyBytes = s.keyBytes := rfl
@[simp] theorem accept_saltBytes (i : Instr) : (s.accept i).saltBytes = s.saltBytes := rfl
@[simp] theorem accept_rawBytes (i : Instr) : (s.accept i).rawBytes = s.rawBytes := rfl
@[simp] theorem accept_symBytes (i : Instr) : (s.accept i).symBytes = s.symBytes := rfl
@[simp] theorem accept_versionReserved (i : Instr) : (s.accept i).versionReserved = s.versionReserved := rfl
@[simp] theorem accept_costOutOfRange (i : Instr) : (s.accept i).costOutOfRange = s.costOutOfRange := rfl
@[simp] theorem finish_keyBytes : (s.finish).keyBytes = s.keyBytes := rfl
@[simp] theorem finish_saltBytes : (s.finish).saltBytes = s.saltBytes := rfl
@[simp] theorem finish_rawBytes : (s.finish).rawBytes = s.rawBytes := rfl
@[simp] theorem finish_symBytes : (s.finish).symBytes = s.symBytes := rfl
@[simp] theorem finish_versionReserved : (s.finish).versionReserved = s.versionReserved := rfl
@[simp] theorem finish_costOutOfRange : (s.finish).costOutOfRange = s.costOutOfRange := rfl
@[simp] theorem goTo_keyBytes (p : Phase) : (s.goTo p).keyBytes = s.keyBytes := rfl
@[simp] theorem goTo_saltBytes (p : Phase) : (s.goTo p).saltBytes = s.saltBytes := rfl
@[simp] theorem goTo_rawBytes (p : Phase) : (s.goTo p).rawBytes = s.rawBytes := rfl
@[simp] theorem goTo_symBytes (p : Phase) : (s.goTo p).symBytes = s.symBytes := rfl
@[simp] theorem goTo_versionReserved (p : Phase) : (s.goTo p).versionReserved = s.versionReserved := rfl
@[simp] theorem goTo_costOutOfRange (p : Phase) : (s.goTo p).costOutOfRange = s.costOutOfRange := rfl
@[simp] theorem loadConstants_keyBytes : (s.loadConstants).keyBytes = s.keyBytes := rfl
@[simp] theorem loadConstants_saltBytes : (s.loadConstants).saltBytes = s.saltBytes := rfl
@[simp] theorem loadConstants_rawBytes : (s.loadConstants).rawBytes = s.rawBytes := rfl
@[simp] theorem loadConstants_symBytes : (s.loadConstants).symBytes = s.symBytes := rfl
@[simp] theorem loadConstants_versionReserved : (s.loadConstants).versionReserved = s.versionReserved := rfl
@[simp] theorem loadConstants_costOutOfRange : (s.loadConstants).costOutOfRange = s.costOutOfRange := rfl
@[simp] theorem withCipher_keyBytes (c : Cipher) : (s.withCipher c).keyBytes = s.keyBytes := rfl
@[simp] theorem withCipher_saltBytes (c : Cipher) : (s.withCipher c).saltBytes = s.saltBytes := rfl
@[simp] theorem withCipher_rawBytes (c : Cipher) : (s.withCipher c).rawBytes = s.rawBytes := rfl
@[simp] theorem withCipher_symBytes (c : Cipher) : (s.withCipher c).symBytes = s.symBytes := rfl
@[simp] theorem withCipher_versionReserved (c : Cipher) : (s.withCipher c).versionReserved = s.versionReserved := rfl
@[simp] theorem withCipher_costOutOfRange (c : Cipher) : (s.withCipher c).costOutOfRange = s.costOutOfRange := rfl
@[simp] theorem withData_keyBytes (lr : Word × Word) : (s.withData lr).keyBytes = s.keyBytes := rfl
@[simp] theorem withData_saltBytes (lr : Word × Word) : (s.withData lr).saltBytes = s.saltBytes := rfl
@[simp] theorem withData_rawBytes (lr : Word × Word) : (s.withData lr).rawBytes = s.rawBytes := rfl
@[simp] theorem withData_symBytes (lr : Word × Word) : (s.withData lr).symBytes = s.symBytes := rfl
@[simp] theorem withData_versionReserved (lr : Word × Word) : (s.withData lr).versionReserved = s.versionReserved := rfl
@[simp] theorem withData_costOutOfRange (lr : Word × Word) : (s.withData lr).costOutOfRange = s.costOutOfRange := rfl
@[simp] theorem withDigest_keyBytes (d : Vector Byte 23) : (s.withDigest d).keyBytes = s.keyBytes := rfl
@[simp] theorem withDigest_saltBytes (d : Vector Byte 23) : (s.withDigest d).saltBytes = s.saltBytes := rfl
@[simp] theorem withDigest_rawBytes (d : Vector Byte 23) : (s.withDigest d).rawBytes = s.rawBytes := rfl
@[simp] theorem withDigest_symBytes (d : Vector Byte 23) : (s.withDigest d).symBytes = s.symBytes := rfl
@[simp] theorem withDigest_versionReserved (d : Vector Byte 23) : (s.withDigest d).versionReserved = s.versionReserved := rfl
@[simp] theorem withDigest_costOutOfRange (d : Vector Byte 23) : (s.withDigest d).costOutOfRange = s.costOutOfRange := rfl
@[simp] theorem withIter_keyBytes (n : Word) : (s.withIter n).keyBytes = s.keyBytes := rfl
@[simp] theorem withIter_saltBytes (n : Word) : (s.withIter n).saltBytes = s.saltBytes := rfl
@[simp] theorem withIter_rawBytes (n : Word) : (s.withIter n).rawBytes = s.rawBytes := rfl
@[simp] theorem withIter_symBytes (n : Word) : (s.withIter n).symBytes = s.symBytes := rfl
@[simp] theorem withIter_versionReserved (n : Word) : (s.withIter n).versionReserved = s.versionReserved := rfl
@[simp] theorem withIter_costOutOfRange (n : Word) : (s.withIter n).costOutOfRange = s.costOutOfRange := rfl
@[simp] theorem withSymbols_keyBytes (out : List Byte) : (s.withSymbols out).keyBytes = s.keyBytes := rfl
@[simp] theorem withSymbols_saltBytes (out : List Byte) : (s.withSymbols out).saltBytes = s.saltBytes := rfl
@[simp] theorem withSymbols_rawBytes (out : List Byte) : (s.withSymbols out).rawBytes = s.rawBytes := rfl
@[simp] theorem withSymbols_versionReserved (out : List Byte) : (s.withSymbols out).versionReserved = s.versionReserved := rfl
@[simp] theorem withSymbols_costOutOfRange (out : List Byte) : (s.withSymbols out).costOutOfRange = s.costOutOfRange := rfl
@[simp] theorem withRawBytes_keyBytes (out : List Byte) : (s.withRawBytes out).keyBytes = s.keyBytes := rfl
@[simp] theorem withRawBytes_saltBytes (out : List Byte) : (s.withRawBytes out).saltBytes = s.saltBytes := rfl
@[simp] theorem withRawBytes_symBytes (out : List Byte) : (s.withRawBytes out).symBytes = s.symBytes := rfl
@[simp] theorem withRawBytes_versionReserved (out : List Byte) : (s.withRawBytes out).versionReserved = s.versionReserved := rfl
@[simp] theorem withRawBytes_costOutOfRange (out : List Byte) : (s.withRawBytes out).costOutOfRange = s.costOutOfRange := rfl
@[simp] theorem initWork_keyBytes : (s.initWork).keyBytes = s.keyBytes := rfl
@[simp] theorem initWork_saltBytes : (s.initWork).saltBytes = s.saltBytes := rfl
@[simp] theorem initWork_rawBytes : (s.initWork).rawBytes = s.rawBytes := rfl
@[simp] theorem initWork_symBytes : (s.initWork).symBytes = s.symBytes := rfl
@[simp] theorem initWork_versionReserved : (s.initWork).versionReserved = s.versionReserved := rfl
@[simp] theorem initWork_costOutOfRange : (s.initWork).costOutOfRange = s.costOutOfRange := rfl
@[simp] theorem discardCipher_keyBytes : (s.discardCipher).keyBytes = s.keyBytes := rfl
@[simp] theorem discardCipher_saltBytes : (s.discardCipher).saltBytes = s.saltBytes := rfl
@[simp] theorem discardCipher_rawBytes : (s.discardCipher).rawBytes = s.rawBytes := rfl
@[simp] theorem discardCipher_symBytes : (s.discardCipher).symBytes = s.symBytes := rfl
@[simp] theorem discardCipher_versionReserved : (s.discardCipher).versionReserved = s.versionReserved := rfl
@[simp] theorem discardCipher_costOutOfRange : (s.discardCipher).costOutOfRange = s.costOutOfRange := rfl

/-! The work of each command, in terms of these updates. -/

@[simp] theorem xkeyWork_eq :
    s.xkeyWork = s.withCipher (expandKey noSalt (keyModeOf s.version) s.keyBytes s.cipher) := rfl
@[simp] theorem xsaltWork_eq : s.xsaltWork = s.withCipher (expandKey noSalt .literal s.saltBytes s.cipher) := rfl
@[simp] theorem xeksWork_eq :
    s.xeksWork = s.withCipher (expandKey (saltWords s.saltBytes) (keyModeOf s.version) s.keyBytes s.cipher) := rfl
@[simp] theorem encblkWork_eq : s.encblkWork = s.withData (s.cipher.encryptBlock (s.dataL, s.dataR)) := rfl
@[simp] theorem magicWork_eq : s.magicWork = s.withDigest (digestOf s.cipher) := rfl
@[simp] theorem r64encWork_eq : s.r64encWork = s.withSymbols (r64Encode s.rawBytes) := rfl
@[simp] theorem r64decWork_eq : s.r64decWork = s.withRawBytes (r64Bytes s.symBytes) := rfl
@[simp] theorem countPass_eq : s.countPass = s.withIter (s.iter + 1#32) := rfl
@[simp] theorem deriveWork_eq :
    s.deriveWork = ((((s.loadConstants.withCipher
      (eksSetup (keyModeOf s.version) s.keyBytes s.saltBytes s.cost)).withIter
      (BitVec.ofNat 32 (rounds s.cost))).withDigest
      (digestOf (eksSetup (keyModeOf s.version) s.keyBytes s.saltBytes s.cost)))).discardCipher := rfl

end fields

end Sys2Proof.Machine.State
end

