-- ==== Sys2Proof/Laws/Ops.lean ====
section
/-! SUPPORT. For each shared operation, once, everything it can do: acceptance, the checks, illegal words, host accesses,
commands and steps. -/

namespace Sys2Proof.Machine

/-- What a command write can do: ignored while busy, ignored while an error is latched, an error, or accepted. -/
theorem State.offer_cases (s : State) (i : Instr) (work : State → State) :
    (s.busy = true ∧ s.offer i work = s) ∨
    (s.busy = false ∧ s.err ≠ .noError ∧ s.offer i work = s) ∨
    (∃ r, s.Ready ∧ precheck i s.newDraw = some r ∧ s.offer i work = s.newDraw.raise (opcode i) r) ∨
    (s.Ready ∧ precheck i s.newDraw = none ∧ s.offer i work = work (s.newDraw.accept i)) := by
  unfold State.offer
  by_cases hb : s.busy = true
  · exact .inl ⟨hb, by simp [hb]⟩
  · have hb : s.busy = false := by simpa using hb
    by_cases he : s.err = .noError
    · cases hp : precheck i s.newDraw with
      | some r => exact .inr (.inr (.inl ⟨r, ⟨hb, he⟩, rfl, by simp [hb, he]⟩))
      | none => exact .inr (.inr (.inr ⟨⟨hb, he⟩, rfl, by simp [hb, he]⟩))
    · exact .inr (.inl ⟨hb, he, by simp [hb, he]⟩)

/-- A command that is not ignored and whose checks hold is accepted. -/
theorem State.offer_accepts {s : State} {i : Instr} (work : State → State) (hr : s.Ready)
    (hp : precheck i s.newDraw = none) : s.offer i work = work (s.newDraw.accept i) := by
  simp [State.offer, hr.idle, hr.no_error, hp]

/-- A command that is not ignored and fails a check takes that error. -/
theorem State.offer_raises {s : State} {i : Instr} {r : ErrorReport} (work : State → State) (hr : s.Ready)
    (hp : precheck i s.newDraw = some r) : s.offer i work = s.newDraw.raise (opcode i) r := by
  simp [State.offer, hr.idle, hr.no_error, hp]

/-- While the engine is busy every command write is ignored. -/
theorem State.offer_busy {s : State} (i : Instr) (work : State → State) (hb : s.busy = true) :
    s.offer i work = s := by
  simp [State.offer, hb]

/-- While an error is latched a command write is ignored. -/
theorem State.offer_latched {s : State} (i : Instr) (work : State → State) (he : s.err ≠ .noError) :
    s.offer i work = s := by
  by_cases hb : s.busy = true <;> simp [State.offer, hb, he]

/-- What a write of `ZEROIZE` can do: ignored while busy, else accepted. -/
theorem State.offerZeroize_cases (s : State) (work : State → State) :
    (s.busy = true ∧ s.offerZeroize work = s) ∨
    (s.busy = false ∧
      s.offerZeroize work = work { s.newDraw.accept .zeroize with err := .noError, errinfo := 0#32 }) := by
  unfold State.offerZeroize
  by_cases hb : s.busy = true
  · exact .inl ⟨hb, by simp [hb]⟩
  · exact .inr ⟨by simpa using hb, by simp [hb]⟩

/-- What a word that is no command can do: ignored while busy or latched, else `ERR_ILLEGAL`. -/
theorem State.illegalCommand_cases (s : State) (w : Word) (e : DecodeError) :
    (¬ s.Ready ∧ s.illegalCommand w e = s) ∨
    (s.Ready ∧ ∃ r : ErrorReport, r.code = .illegal ∧ s.illegalCommand w e = s.newDraw.raise (opcField w) r) := by
  unfold State.illegalCommand
  by_cases hb : s.busy = true
  · exact .inl ⟨fun h => by simp [h.idle] at hb, by simp [hb]⟩
  · by_cases he : s.err = .noError
    · refine .inr ⟨⟨by simpa using hb, he⟩, ?_⟩
      cases e
      · exact ⟨⟨.illegal, 2#8, w.extractLsb' 8 16⟩, rfl, by simp [hb, he]⟩
      · exact ⟨⟨.illegal, 1#8, 0#16⟩, rfl, by simp [hb, he]⟩
    · exact .inl ⟨fun h => he h.no_error, by simp [hb, he]⟩

/-- No check ever reports "no error". -/
theorem precheck_code_ne {i : Instr} {s : State} {r : ErrorReport} (h : precheck i s = some r) :
    r.code ≠ .noError := by
  unfold precheck at h
  repeat' split at h
  all_goals first
    | (cases h; done)
    | (cases h; simp)
    | (obtain ⟨_, _, rfl⟩ := Option.map_eq_some_iff.mp h; simp)

/-- The checks look at the operands only, not at the bookkeeping of acceptance. -/
@[simp] theorem precheck_accept (i j : Instr) (s : State) : precheck i (s.accept j) = precheck i s := rfl

/-- The checks do not look at the phase. -/
@[simp] theorem precheck_goTo (i : Instr) (p : Phase) (s : State) : precheck i (s.goTo p) = precheck i s := rfl

/-- A command that reads the cipher state and passes its checks found `SV = 1` (60_exceptions R211 order 6). -/
theorem sv_of_precheck {i : Instr} {s : State} (hc : readsCipher i = true) (h : precheck i s = none) : s.sv = true := by
  unfold precheck at h
  repeat' split at h
  all_goals simp_all

/-- A `DERIVE` that passes its checks found a cost in 4..31 (60_exceptions R201). -/
theorem cost_of_precheck {s : State} (h : precheck .derive s = none) : 4 ≤ s.cost.toNat ∧ s.cost.toNat ≤ 31 := by
  have : s.costOutOfRange = false := by
    unfold precheck at h
    repeat' split at h
    all_goals simp_all [readsKey, readsCipher]
  simp only [State.costOutOfRange, BitVec.lt_def, Bool.or_eq_false_iff, decide_eq_false_iff_not] at this
  simpa using this

/-- `INIT` has no check of its own (40_cipher_core R103). -/
@[simp] theorem precheck_init (s : State) : precheck .init s = none := by simp [precheck, readsKey, readsCipher]

/-- The checks of `XSALT`, `ENCBLK`, `MAGIC`: `SV = 1` (60_exceptions R211 order 6). -/
theorem precheck_sv {i : Instr} (hi : i = .xsalt ∨ i = .encblk ∨ i = .magic) {s : State} (h : s.sv = true) :
    precheck i s = none := by
  rcases hi with rfl | rfl | rfl <;> simp [precheck, readsKey, readsCipher, h]

/-- The checks of `XKEY`, `XEKS`: a usable key and `SV = 1`. -/
theorem precheck_key {i : Instr} (hi : i = .xkey ∨ i = .xeks) {s : State} (hk : s.KeyUsable) (h : s.sv = true) :
    precheck i s = none := by
  have h0 : s.keylen ≠ 0#8 := fun e => by have := hk.not_empty; simp [e] at this
  have h1 : ¬ 72#8 < s.keylen := by have := hk.not_long; simp only [BitVec.lt_def]; simpa using this
  rcases hi with rfl | rfl <;> simp [precheck, readsKey, readsCipher, h, hk.version, h0, h1]

/-- The checks of `DERIVE`: a usable key and a cost in 4..31. -/
theorem precheck_derive {s : State} (hk : s.KeyUsable) (hc : s.costOutOfRange = false) :
    precheck .derive s = none := by
  have h0 : s.keylen ≠ 0#8 := fun e => by have := hk.not_empty; simp [e] at this
  have h1 : ¬ 72#8 < s.keylen := by have := hk.not_long; simp only [BitVec.lt_def]; simpa using this
  simp [precheck, readsKey, readsCipher, hk.version, h0, h1, hc]

/-- The check of `R64ENC`: `RAWLEN` within the buffer. -/
theorem precheck_r64enc {s : State} (h : s.rawlen.toNat ≤ 48) : precheck .r64enc s = none := by
  have h1 : ¬ 48#8 < s.rawlen := by simp only [BitVec.lt_def]; simpa using h
  simp [precheck, readsKey, readsCipher, h1]

/-- The checks of `R64DEC`: `SYMLEN` within the buffer, no group of one, every symbol in the alphabet. -/
theorem precheck_r64dec {s : State} (h : s.symlen.toNat ≤ 64) (hm : s.symlen.toNat % 4 ≠ 1)
    (hs : firstBadSymbol 0 s.symBytes = none) : precheck .r64dec s = none := by
  have h1 : ¬ 64#8 < s.symlen := by simp only [BitVec.lt_def]; simpa using h
  simp [precheck, readsKey, readsCipher, h1, hm, hs]

/-- No command ends in a fault or a refusal: `exec` always answers a next state (00_scope R8). -/
theorem exec_next (i : Instr) (s : State) : ∃ t, exec i s = .next t := by
  cases i <;> exact ⟨_, rfl⟩

/-- What a host transaction can do. -/
theorem State.hostAccess_cases {s t : State} {a : Access} (h : s.hostAccess a = .next t) :
    (∃ off, off < 0x2000 ∧ off % 4 = 0 ∧ a = .read .word off ∧ t = s.hostRead (regOf off)) ∨
    (∃ v, a = .write .word 0 v ∧ s.commandWrite v = .next t) ∨
    (∃ off v, off < 0x2000 ∧ off % 4 = 0 ∧ off ≠ 0 ∧ a = .write .word off v ∧ t = s.hostWrite (regOf off) v) := by
  unfold State.hostAccess at h
  split at h
  case isFalse => cases h
  case isTrue hw =>
    split at h
    case isFalse => cases h
    case isTrue ha =>
      simp only [Access.inWindow, decide_eq_true_eq] at hw
      simp only [Access.isAlignedWord, Bool.and_eq_true, decide_eq_true_eq] at ha
      cases a with
      | read width off =>
        obtain ⟨rfl, ha⟩ := ha
        exact .inl ⟨off, hw, ha, rfl, by simpa using h.symm⟩
      | write width off v =>
        obtain ⟨rfl, ha⟩ := ha
        by_cases h0 : off = 0
        · subst h0
          exact .inr (.inl ⟨v, rfl, by simpa using h⟩)
        · exact .inr (.inr ⟨off, v, hw, ha, h0, rfl, by simpa [h0] using h.symm⟩)

/-- What a write to `CMD` can do. -/
theorem State.commandWrite_cases {s t : State} {w : Word} (h : s.commandWrite w = .next t) :
    (∃ i, decode w = .ok i ∧ s.stepwise = true ∧ t = s.start i) ∨
    (∃ i, decode w = .ok i ∧ s.stepwise = false ∧ exec i s = .next t) ∨
    (∃ e, decode w = .error e ∧ t = s.illegalCommand w e) := by
  unfold State.commandWrite at h
  split at h
  · rename_i i hd
    split at h
    · rename_i hs
      exact .inl ⟨i, hd, hs, by simpa using h.symm⟩
    · rename_i hs
      exact .inr (.inl ⟨i, hd, by simpa using hs, h⟩)
  · rename_i e hd
    exact .inr (.inr ⟨e, hd, by simpa using h.symm⟩)

/-- What a step can do: an engine turn, a reset, or a transaction of the host. -/
theorem step_cases {s t : State} (h : step s = .next t) :
    (s.pending = [] ∧ t = s.engineStep) ∨
    (∃ rest, s.pending = .engine :: rest ∧ t = State.engineStep { s with pending := rest }) ∨
    (∃ rest, s.pending = .reset :: rest ∧ t = State.resetBlock { s with pending := rest }) ∨
    (∃ a rest, s.pending = .access a :: rest ∧ State.hostAccess { s with pending := rest } a = .next t) := by
  unfold step at h
  split at h
  · rename_i hp
    exact .inl ⟨hp, by simpa using h.symm⟩
  · rename_i e rest hp
    cases e with
    | engine => exact .inr (.inl ⟨rest, hp, by simpa [State.perform] using h.symm⟩)
    | reset => exact .inr (.inr (.inl ⟨rest, hp, by simpa [State.perform] using h.symm⟩))
    | access a => exact .inr (.inr (.inr ⟨a, rest, hp, by simpa [State.perform] using h⟩))

/-- A register write never touches what the engine alone writes, nor the status, nor the model's own fields. -/
theorem State.hostWrite_frame (s : State) (r : Reg) (v : Word) :
    (s.hostWrite r v).cipher = s.cipher ∧ (s.hostWrite r v).cipherZeroed = s.cipherZeroed ∧
    (s.hostWrite r v).sv = s.sv ∧ (s.hostWrite r v).busy = s.busy ∧ (s.hostWrite r v).done = s.done ∧
    (s.hostWrite r v).err = s.err ∧ (s.hostWrite r v).errinfo = s.errinfo ∧ (s.hostWrite r v).phase = s.phase ∧
    (s.hostWrite r v).opc = s.opc ∧ (s.hostWrite r v).digest = s.digest ∧ (s.hostWrite r v).iter = s.iter ∧
    (s.hostWrite r v).mode2x = s.mode2x ∧ (s.hostWrite r v).rdata = s.rdata ∧
    (s.hostWrite r v).pending = s.pending ∧ (s.hostWrite r v).stepwise = s.stepwise ∧
    (s.hostWrite r v).readDraws = s.readDraws ∧ (s.hostWrite r v).cmdDraws = s.cmdDraws := by
  unfold State.hostWrite
  split
  · simp
  · cases r <;> simp [State.setReg]

end Sys2Proof.Machine
end

