-- ==== Sys2Proof/Laws/Bus.lean ====
section
/-! SUPPORT. The register window: what one register holds after another has been written, and what a read sees
(20_memory R61, R62, R65 to R68). -/

namespace Sys2Proof.Machine.State

section values

variable (s : State)

/-- Writing `cost` changes what no other register holds. -/
theorem regValue_cost (x : Byte) {r : Reg} (h : r ≠ .cost) : State.regValue { s with cost := x } r = s.regValue r := by
  cases r <;> first
    | exact absurd rfl h
    | rfl

/-- Writing `version` changes what no other register holds. -/
theorem regValue_version (x : BitVec 3) {r : Reg} (h : r ≠ .version) : State.regValue { s with version := x } r = s.regValue r := by
  cases r <;> first
    | exact absurd rfl h
    | rfl

/-- Writing `keylen` changes what no other register holds. -/
theorem regValue_keylen (x : Byte) {r : Reg} (h : r ≠ .keylen) : State.regValue { s with keylen := x } r = s.regValue r := by
  cases r <;> first
    | exact absurd rfl h
    | rfl

/-- Writing `dataL` changes what no other register holds. -/
theorem regValue_dataL (x : Word) {r : Reg} (h : r ≠ .dataL) : State.regValue { s with dataL := x } r = s.regValue r := by
  cases r <;> first
    | exact absurd rfl h
    | rfl

/-- Writing `dataR` changes what no other register holds. -/
theorem regValue_dataR (x : Word) {r : Reg} (h : r ≠ .dataR) : State.regValue { s with dataR := x } r = s.regValue r := by
  cases r <;> first
    | exact absurd rfl h
    | rfl

/-- Writing `rawlen` changes what no other register holds. -/
theorem regValue_rawlen (x : Byte) {r : Reg} (h : r ≠ .rawlen) : State.regValue { s with rawlen := x } r = s.regValue r := by
  cases r <;> first
    | exact absurd rfl h
    | rfl

/-- Writing `symlen` changes what no other register holds. -/
theorem regValue_symlen (x : Byte) {r : Reg} (h : r ≠ .symlen) : State.regValue { s with symlen := x } r = s.regValue r := by
  cases r <;> first
    | exact absurd rfl h
    | rfl

/-- Writing `salt` changes what no other register holds. -/
theorem regValue_salt (x : Buffer 16) {r : Reg} (h : ∀ w, r ≠ .saltw w) :
    State.regValue { s with salt := x } r = s.regValue r := by
  cases r <;> first
    | exact absurd rfl (h _)
    | rfl

/-- Writing `key` changes what no other register holds. -/
theorem regValue_key (x : Buffer 72) {r : Reg} (h : ∀ w, r ≠ .keyw w) :
    State.regValue { s with key := x } r = s.regValue r := by
  cases r <;> first
    | exact absurd rfl (h _)
    | rfl

/-- Writing `raw` changes what no other register holds. -/
theorem regValue_raw (x : Buffer 48) {r : Reg} (h : ∀ w, r ≠ .raww w) :
    State.regValue { s with raw := x } r = s.regValue r := by
  cases r <;> first
    | exact absurd rfl (h _)
    | rfl

/-- Writing `sym` changes what no other register holds. -/
theorem regValue_sym (x : Buffer 64) {r : Reg} (h : ∀ w, r ≠ .symw w) :
    State.regValue { s with sym := x } r = s.regValue r := by
  cases r <;> first
    | exact absurd rfl (h _)
    | rfl

/-- Writing one word of `salt` changes what no other register holds (20_memory R62). -/
theorem regValue_setReg_saltw (w : Fin 4) (v : Word) {r : Reg} (h : .saltw w ≠ r) :
    (s.setReg (.saltw w) v).regValue r = s.regValue r := by
  by_cases h' : ∃ w', r = .saltw w'
  · obtain ⟨w', rfl⟩ := h'
    have e : w.val ≠ w'.val := fun e => h (congrArg Reg.saltw (Fin.ext e))
    change Buffer.word (s.salt.putWord w v) s.freeRead w' = s.salt.word s.freeRead w'
    exact Buffer.word_putWord_other _ _ _ e
  · exact s.regValue_salt _ fun w' e => h' ⟨w', e⟩

/-- Writing one word of `key` changes what no other register holds (20_memory R62). -/
theorem regValue_setReg_keyw (w : Fin 18) (v : Word) {r : Reg} (h : .keyw w ≠ r) :
    (s.setReg (.keyw w) v).regValue r = s.regValue r := by
  by_cases h' : ∃ w', r = .keyw w'
  · obtain ⟨w', rfl⟩ := h'
    have e : w.val ≠ w'.val := fun e => h (congrArg Reg.keyw (Fin.ext e))
    change Buffer.word (s.key.putWord w v) s.freeRead w' = s.key.word s.freeRead w'
    exact Buffer.word_putWord_other _ _ _ e
  · exact s.regValue_key _ fun w' e => h' ⟨w', e⟩

/-- Writing one word of `raw` changes what no other register holds (20_memory R62). -/
theorem regValue_setReg_raww (w : Fin 12) (v : Word) {r : Reg} (h : .raww w ≠ r) :
    (s.setReg (.raww w) v).regValue r = s.regValue r := by
  by_cases h' : ∃ w', r = .raww w'
  · obtain ⟨w', rfl⟩ := h'
    have e : w.val ≠ w'.val := fun e => h (congrArg Reg.raww (Fin.ext e))
    change Buffer.word (s.raw.putWord w v) s.freeRead w' = s.raw.word s.freeRead w'
    exact Buffer.word_putWord_other _ _ _ e
  · exact s.regValue_raw _ fun w' e => h' ⟨w', e⟩

/-- Writing one word of `sym` changes what no other register holds (20_memory R62). -/
theorem regValue_setReg_symw (w : Fin 16) (v : Word) {r : Reg} (h : .symw w ≠ r) :
    (s.setReg (.symw w) v).regValue r = s.regValue r := by
  by_cases h' : ∃ w', r = .symw w'
  · obtain ⟨w', rfl⟩ := h'
    have e : w.val ≠ w'.val := fun e => h (congrArg Reg.symw (Fin.ext e))
    change Buffer.word (s.sym.putWord w v) s.freeRead w' = s.sym.word s.freeRead w'
    exact Buffer.word_putWord_other _ _ _ e
  · exact s.regValue_sym _ fun w' e => h' ⟨w', e⟩

/-- Writing one register changes what no other register holds (20_memory R61). -/
theorem regValue_setReg {r r' : Reg} (v : Word) (h : r ≠ r') : (s.setReg r v).regValue r' = s.regValue r' := by
  cases r with
  | cost => exact s.regValue_cost _ h.symm
  | version => exact s.regValue_version _ h.symm
  | keylen => exact s.regValue_keylen _ h.symm
  | dataL => exact s.regValue_dataL _ h.symm
  | dataR => exact s.regValue_dataR _ h.symm
  | rawlen => exact s.regValue_rawlen _ h.symm
  | symlen => exact s.regValue_symlen _ h.symm
  | saltw w => exact s.regValue_setReg_saltw w v h
  | keyw w => exact s.regValue_setReg_keyw w v h
  | raww w => exact s.regValue_setReg_raww w v h
  | symw w => exact s.regValue_setReg_symw w v h
  | _ => rfl

/-- A read while the block is idle sees what the register holds. -/
theorem readReg_idle (h : s.busy = false) (r : Reg) : s.readReg r = s.regValue r := by
  simp [State.readReg, h]

/-- A read while the block is busy of a register that is not always readable sees a free word (20_memory R68). -/
theorem readReg_busy (h : s.busy = true) {r : Reg} (hr : r.readableWhileBusy = false) : s.readReg r = s.freeRead := by
  simp [State.readReg, h, hr]

/-- Every write is ignored while the block is busy (20_memory R68). -/
theorem hostWrite_busy (h : s.busy = true) (r : Reg) (v : Word) : s.hostWrite r v = s := by
  simp [State.hostWrite, h]

/-- A write while the block is idle is a write of that register. -/
theorem hostWrite_idle (h : s.busy = false) (r : Reg) (v : Word) : s.hostWrite r v = s.setReg r v := by
  simp [State.hostWrite, h]

/-- A command written while the block is busy is ignored, whatever the command (60_exceptions R211 order 1). -/
theorem exec_busy (h : s.busy = true) (i : Instr) : exec i s = .next s := by
  cases i <;> simp [exec, execInit, execXkey, execXsalt, execXeks, execEncblk, execMagic, execDerive, execR64enc,
    execR64dec, execClrerr, execZeroize, State.offer_busy _ _ h, State.offerZeroize, h]

/-- The same in a stepwise machine. -/
theorem start_busy (h : s.busy = true) (i : Instr) : s.start i = s := by
  cases i <;> simp [State.start, State.offer_busy _ _ h, State.offerZeroize, h]

/-- Every write to `CMD` is ignored while the block is busy (20_memory R68). -/
theorem commandWrite_busy (h : s.busy = true) (w : Word) : s.commandWrite w = .next s := by
  unfold State.commandWrite
  split
  · rw [exec_busy s h, start_busy s h]; simp
  · simp [State.illegalCommand, h]

/-- A command written while an error is latched is ignored but for `CLRERR` and `ZEROIZE` (60_exceptions R212). -/
theorem exec_latched (h : s.err ≠ .noError) {i : Instr} (h1 : i ≠ .clrerr) (h2 : i ≠ .zeroize) :
    exec i s = .next s := by
  cases i <;> first
    | exact absurd rfl h1
    | exact absurd rfl h2
    | simp [exec, execInit, execXkey, execXsalt, execXeks, execEncblk, execMagic, execDerive, execR64enc, execR64dec,
        State.offer_latched _ _ h]

/-- The same in a stepwise machine. -/
theorem start_latched (h : s.err ≠ .noError) {i : Instr} (h1 : i ≠ .clrerr) (h2 : i ≠ .zeroize) : s.start i = s := by
  cases i <;> first
    | exact absurd rfl h1
    | exact absurd rfl h2
    | simp [State.start, State.offer_latched _ _ h]

end values

end Sys2Proof.Machine.State
end

