-- ==== Sys2Proof/Laws/Cipher.lean ====
section
/-! SUPPORT. The cipher's functions: what each irreducible one is, and small facts about key words and cipher state
(40_cipher_core R101, R102; 41_key_schedule R121, R122; 30_encoding R86). -/

namespace Sys2Proof.Machine

/-- `EncryptBlock` is its sixteen rounds and the two last exclusive-ors (40_cipher_core R101). -/
theorem Cipher.encryptBlock_eq (c : Cipher) (lr : Word × Word) :
    c.encryptBlock lr = (((List.range 16).foldl c.round lr).2 ^^^ c.subkey 17,
      ((List.range 16).foldl c.round lr).1 ^^^ c.subkey 16) := by
  unfold Cipher.encryptBlock; rfl

/-- `ExpandKey` is step 1, then step 2 (40_cipher_core R102). -/
theorem expandKey_eq (sw : Vector Word 4) (mode : KeyMode) (kb : List Byte) (c : Cipher) :
    expandKey sw mode kb c = refillAll sw (mixKey mode kb c) := by
  unfold expandKey; rfl

/-- `EksSetup` is the salted expansion of the constants, then `2^cost` passes (41_key_schedule R122). -/
theorem eksSetup_eq (mode : KeyMode) (kb salt : List Byte) (cost : Byte) :
    eksSetup mode kb salt cost =
      Nat.iterate (eksPass mode kb salt) (rounds cost) (expandKey (saltWords salt) mode kb Cipher.initial) := by
  unfold eksSetup; rfl

/-- The digest is the first 23 bytes of `MagicEncrypt` (41_key_schedule R121, R123). -/
theorem digestOf_eq (c : Cipher) : digestOf c = Vector.ofFn fun i => (magicEncrypt c).getD i 0#8 := by
  unfold digestOf; rfl

/-- A subkey just written reads back. -/
theorem Cipher.subkey_setSubkey_same (c : Cipher) {i : Nat} (h : i < 18) (v : Word) : (c.setSubkey i v).subkey i = v := by
  simp [Cipher.subkey, Cipher.setSubkey, h]

/-- Writing a subkey leaves the others alone. -/
theorem Cipher.subkey_setSubkey_other (c : Cipher) {i j : Nat} (h : i ≠ j) (v : Word) :
    (c.setSubkey i v).subkey j = c.subkey j := by
  simp [Cipher.subkey, Cipher.setSubkey, Vector.getElem?_setIfInBounds_ne h]

/-- Writing a subkey leaves the tables alone. -/
@[simp] theorem Cipher.s_setSubkey (c : Cipher) (i : Nat) (v : Word) : (c.setSubkey i v).s = c.s := rfl

/-- Writing a table word leaves the subkeys alone. -/
@[simp] theorem Cipher.p_setTable (c : Cipher) (b : Fin 4) (i : Nat) (v : Word) : (c.setTable b i v).p = c.p := rfl

/-- A loop over the indices `0, 2, ..., 2(n-1)` ends in the last of the states that its turns link. -/
theorem foldl_evens {α : Type} (f : α → Nat → α) (r : Nat → α) (n : Nat)
    (h : ∀ k, k < n → r (k + 1) = f (r k) (2 * k)) : (evens n).foldl f (r 0) = r n := by
  induction n with
  | zero => rfl
  | succ n ih =>
    have e : evens (n + 1) = evens n ++ [2 * n] := by simp [evens, List.range_succ]
    rw [e, List.foldl_append, ih fun k hk => h k (Nat.lt_succ_of_lt hk), h n (Nat.lt_succ_self n)]
    rfl

/-- The encryption of a turn of the refill does not change the cipher state (40_cipher_core R101, R102). -/
@[simp] theorem Refill.encrypt_cipher (sw : Vector Word 4) (r : Refill) : (r.encrypt sw).cipher = r.cipher := rfl

/-- Each encryption of the refill is counted (40_cipher_core R102 (f)). -/
@[simp] theorem Refill.encrypt_t (sw : Vector Word 4) (r : Refill) : (r.encrypt sw).t = r.t + 1 := rfl

/-- The cursor of a key word moves on by one around the key, whatever the mode (30_encoding R86). -/
@[simp] theorem keyWordStep_snd (mode : KeyMode) (kb : List Byte) (wj : Word × Nat) :
    (keyWordStep mode kb wj).2 = (wj.2 + 1) % kb.length := rfl

/-- A byte whose bit 7 is clear is extended the same way in both modes (00_scope R10). -/
theorem KeyMode.extend_of_msb {b : Byte} (h : b.msb = false) (mode : KeyMode) : mode.extend b = b.setWidth 32 := by
  cases mode
  · rfl
  · exact BitVec.signExtend_eq_setWidth_of_msb_false h

/-- The iteration count is positive (30_encoding R88). -/
theorem rounds_pos (cost : Byte) : 0 < rounds cost := Nat.two_pow_pos _

/-- The iteration count of a legal cost fits in 32 unsigned bits (10_state R34). -/
theorem rounds_le {cost : Byte} (h : cost.toNat ≤ 31) : rounds cost ≤ 2 ^ 31 :=
  Nat.pow_le_pow_right (by omega) h

end Sys2Proof.Machine
end

