-- ==== Sys2Proof/Laws/Invariant.lean ====
section
/-! SUPPORT. When the invariant of Safety.lean holds of an idle block, and what it does not look at. -/

namespace Sys2Proof.Machine

/-- An idle block meets the invariant when no error stands beside `DONE`, its phase is `IDLE`, and a zeroized cipher state is
zero and not valid. -/
theorem State.inv_of_idle {s : State} (hb : s.busy = false) (he : s.err ≠ .noError → s.done = false)
    (hp : s.phase = .idle) (hz : s.cipherZeroed = true → s.sv = false ∧ s.cipher = Cipher.zero) : s.Inv where
  busy_not_done h := by simp [hb] at h
  err_idle h := ⟨hb, he h⟩
  idle_phase _ := hp
  busy_command h := by simp [hb] at h
  derive_iter h := by simp [hb] at h
  zeroed := hz
  derive_not_zeroed h := by simp [hb] at h

/-- The invariant does not look at the schedule. -/
theorem State.inv_pending {s : State} (h : s.Inv) (rest : List Event) : State.Inv { s with pending := rest } :=
  ⟨h.1, h.2, h.3, h.4, h.5, h.6, h.7⟩

end Sys2Proof.Machine
end

