-- ==== Sys2Proof/Laws/PerInstr.lean ====
section
/-! SUPPORT. What holds of every command as syntax, one lemma per command: its word has the zero field clear, carries its
opcode, decodes to it, and it is well formed (30_encoding R80, R81). -/

namespace Sys2Proof.Laws

/-- The encoding of one command. -/
def Encoding.Statement (i : Instr) : Prop :=
  zeroField (encode i) = 0#24 ∧ opcField (encode i) = opcode i ∧ instrOfOpcode (opcode i) = some i ∧ i.wf = true

/-- The word of `INIT`. -/
theorem Encoding.init : Encoding.Statement .init := by unfold Encoding.Statement; decide

/-- The word of `XKEY`. -/
theorem Encoding.xkey : Encoding.Statement .xkey := by unfold Encoding.Statement; decide

/-- The word of `XSALT`. -/
theorem Encoding.xsalt : Encoding.Statement .xsalt := by unfold Encoding.Statement; decide

/-- The word of `XEKS`. -/
theorem Encoding.xeks : Encoding.Statement .xeks := by unfold Encoding.Statement; decide

/-- The word of `ENCBLK`. -/
theorem Encoding.encblk : Encoding.Statement .encblk := by unfold Encoding.Statement; decide

/-- The word of `MAGIC`. -/
theorem Encoding.magic : Encoding.Statement .magic := by unfold Encoding.Statement; decide

/-- The word of `DERIVE`. -/
theorem Encoding.derive : Encoding.Statement .derive := by unfold Encoding.Statement; decide

/-- The word of `R64ENC`. -/
theorem Encoding.r64enc : Encoding.Statement .r64enc := by unfold Encoding.Statement; decide

/-- The word of `R64DEC`. -/
theorem Encoding.r64dec : Encoding.Statement .r64dec := by unfold Encoding.Statement; decide

/-- The word of `CLRERR`. -/
theorem Encoding.clrerr : Encoding.Statement .clrerr := by unfold Encoding.Statement; decide

/-- The word of `ZEROIZE`. -/
theorem Encoding.zeroize : Encoding.Statement .zeroize := by unfold Encoding.Statement; decide

end Sys2Proof.Laws
end

