-- ==== Sys2Proof/Laws/Radix64.lean ====
section
/-! SUPPORT. The codec's functions: how many values, symbols and bytes they give, and what the symbol scan finds
(30_encoding R89; 42_radix64 R140, R141). -/

namespace Sys2Proof.Machine

/-- How many 6-bit values a byte sequence is cut into (30_encoding R89). -/
theorem length_groupValues (x : List Byte) :
    (groupValues x).length = 4 * (x.length / 3) + if x.length % 3 = 0 then 0 else x.length % 3 + 1 := by
  fun_induction groupValues x with
  | case1 => rfl
  | case2 => simp
  | case3 => simp
  | case4 b0 b1 b2 rest ih =>
    simp only [List.length_cons, ih]
    split <;> split <;> omega

/-- The encoder gives one symbol for each value (42_radix64 R140). -/
@[simp] theorem length_r64Encode (x : List Byte) : (r64Encode x).length = (groupValues x).length := by
  simp [r64Encode]

/-- The accumulator puts out a byte as soon as it holds eight bits (42_radix64 R141). -/
theorem length_decodeBits (acc : BitVec 12) (nb : Nat) (vs : List Sextet) (h : nb < 8) :
    (decodeBits acc nb vs).length = (nb + 6 * vs.length) / 8 := by
  induction vs generalizing acc nb with
  | nil => simp [decodeBits]; omega
  | cons v vs ih =>
    simp only [decodeBits]
    split
    · simp only [List.length_cons, ih _ _ (by omega : nb - 2 < 8)]; omega
    · rw [ih _ _ (by omega)]; simp only [List.length_cons]; congr 1; omega

/-- The scan finds nothing exactly when every code is a symbol (42_radix64 R141). -/
theorem firstBadSymbol_eq_none {n : Nat} {l : List Byte} :
    firstBadSymbol n l = none ↔ ∀ c ∈ l, (inv c).isSome = true := by
  induction l generalizing n with
  | nil => simp [firstBadSymbol]
  | cons c cs ih =>
    rw [firstBadSymbol]
    cases hc : inv c with
    | none => simp [hc]
    | some v => simp [hc, ih]

/-- The scan never reports an index before its start. -/
theorem le_of_firstBadSymbol {n k : Nat} {l : List Byte} (h : firstBadSymbol n l = some k) : n ≤ k := by
  induction l generalizing n with
  | nil => simp [firstBadSymbol] at h
  | cons c cs ih =>
    rw [firstBadSymbol] at h
    split at h
    · exact Nat.le_of_eq (by simpa using h)
    · exact Nat.le_of_succ_le (ih h)

/-- Symbols of the alphabet give one value each. -/
theorem length_filterMap_inv {l : List Byte} (h : ∀ c ∈ l, (inv c).isSome = true) :
    (l.filterMap inv).length = l.length := by
  induction l with
  | nil => rfl
  | cons c cs ih =>
    obtain ⟨v, hv⟩ := Option.isSome_iff_exists.mp (h c (by simp))
    simp [hv, ih (fun c hc => h c (by simp [hc]))]

/-- What the decoder does: an error for a group of one, an error for a bad symbol, or the bytes (42_radix64 R141). -/
theorem r64Decode_cases (l : List Byte) :
    (l.length % 4 = 1 ∧ r64Decode l = .error (.truncatedGroup l.length)) ∨
    (l.length % 4 ≠ 1 ∧ ∃ k, firstBadSymbol 0 l = some k ∧ r64Decode l = .error (.symbol k)) ∨
    (l.length % 4 ≠ 1 ∧ firstBadSymbol 0 l = none ∧ r64Decode l = .ok (r64Bytes l)) := by
  unfold r64Decode
  by_cases h : l.length % 4 = 1
  · exact .inl ⟨h, if_pos h⟩
  · rw [if_neg h]
    cases hf : firstBadSymbol 0 l with
    | some k => exact .inr (.inl ⟨h, k, rfl, rfl⟩)
    | none => exact .inr (.inr ⟨h, rfl, rfl⟩)

end Sys2Proof.Machine
end

