-- ==== Sys2Proof/Laws/Sequencer.lean ====
section
/-! SUPPORT. The sequencer: what one engine step can do, and runs of several steps (41_key_schedule R125). -/

namespace Sys2Proof.Machine

/-- An idle engine does nothing (70_reset R240). -/
theorem State.engineStep_idle {s : State} (h : s.busy = false) : s.engineStep = s := by
  simp [State.engineStep, h]

/-- An idle engine does nothing, however often it is given a turn. -/
theorem State.iterate_engineStep_idle {s : State} (h : s.busy = false) (n : Nat) :
    Nat.iterate State.engineStep n s = s := by
  induction n with
  | zero => rfl
  | succ n ih => rw [Nat.iterate, State.engineStep_idle h, ih]

/-- The engine does not touch the schedule. -/
@[simp] theorem State.engineStep_pending (s : State) : s.engineStep.pending = s.pending := by
  unfold State.engineStep
  split
  · split <;> (try split) <;> (try rfl)
    dsimp only
    split <;> rfl
  · rfl

/-- What a busy engine does for a command other than `DERIVE`: its one phase, and it is done (41_key_schedule R125). -/
theorem State.engineStep_single {s : State} (hb : s.busy = true) (hd : s.inDerive = false) :
    (s.phase = .idle ∧ s.engineStep = s) ∨ (s.phase = .pInit ∧ s.engineStep = s.initWork.finish) ∨
    (s.phase = .pXeks ∧ s.engineStep = s.xeksWork.finish) ∨ (s.phase = .pXkey ∧ s.engineStep = s.xkeyWork.finish) ∨
    (s.phase = .pXsalt ∧ s.engineStep = s.xsaltWork.finish) ∨ (s.phase = .pEnc ∧ s.engineStep = s.encblkWork.finish) ∨
    (s.phase = .pMagic ∧ s.engineStep = s.magicWork.finish) ∨ (s.phase = .pR64e ∧ s.engineStep = s.r64encWork.finish) ∨
    (s.phase = .pR64d ∧ s.engineStep = s.r64decWork.finish) ∨ (s.phase = .pZero ∧ s.engineStep = s.zeroizeWork.finish) := by
  cases hp : s.phase <;> simp [State.engineStep, hb, hp, hd]

/-- What a busy engine does in each phase of `DERIVE` (41_key_schedule R125). -/
theorem State.engineStep_derive {s : State} (hb : s.busy = true) (hd : s.inDerive = true)
    (hp : s.phase ∈ phasesOf .derive) :
    (s.phase = .pInit ∧ s.engineStep = s.loadConstants.goTo .pXeks) ∨
    (s.phase = .pXeks ∧ s.engineStep = s.xeksWork.goTo .pXkey) ∨
    (s.phase = .pXkey ∧ s.engineStep = s.xkeyWork.goTo .pXsalt) ∨
    (s.phase = .pXsalt ∧ s.engineStep =
      s.xsaltWork.countPass.goTo (if (s.iter + 1#32).toNat < rounds s.cost then .pXkey else .pMagic)) ∨
    (s.phase = .pMagic ∧ s.engineStep = s.magicWork.discardCipher.finish) := by
  simp only [phasesOf, List.mem_cons, List.not_mem_nil, or_false] at hp
  rcases hp with hp | hp | hp | hp | hp
  · exact .inl ⟨hp, by simp [State.engineStep, hb, hp, hd]⟩
  · exact .inr (.inl ⟨hp, by simp [State.engineStep, hb, hp, hd]⟩)
  · exact .inr (.inr (.inl ⟨hp, by simp [State.engineStep, hb, hp, hd]⟩))
  · refine .inr (.inr (.inr (.inl ⟨hp, ?_⟩)))
    simp only [State.engineStep, hb, hp, hd, if_true]
    show (if (s.iter + 1#32).toNat < rounds s.cost then _ else _) = _
    split <;> rfl
  · exact .inr (.inr (.inr (.inr ⟨hp, by simp [State.engineStep, hb, hp, hd]⟩)))

/-- What a command write does in a stepwise machine: ignored while busy, `CLRERR` at once, `ZEROIZE` accepted, ignored while
an error is latched, an error, or accepted in its first phase (30_encoding R82). -/
theorem State.start_cases (s : State) (i : Instr) :
    (s.busy = true ∧ s.start i = s) ∨
    (s.busy = false ∧ i = .clrerr ∧ s.start i = s.clearError) ∨
    (s.busy = false ∧ i = .zeroize ∧
      s.start i = { s.newDraw.accept .zeroize with err := .noError, errinfo := 0#32 }) ∨
    (s.busy = false ∧ i ≠ .clrerr ∧ i ≠ .zeroize ∧ s.err ≠ .noError ∧ s.start i = s) ∨
    (∃ r, s.Ready ∧ i ≠ .clrerr ∧ i ≠ .zeroize ∧ precheck i s.newDraw = some r ∧
      s.start i = s.newDraw.raise (opcode i) r) ∨
    (s.Ready ∧ i ≠ .clrerr ∧ i ≠ .zeroize ∧ precheck i s.newDraw = none ∧
      s.start i = if i = .derive then (s.newDraw.accept i).withIter 0#32 else s.newDraw.accept i) := by
  by_cases hb : s.busy = true
  · exact .inl ⟨hb, s.start_busy hb i⟩
  have hb : s.busy = false := by simpa using hb
  by_cases hc : i = .clrerr
  · exact .inr (.inl ⟨hb, hc, by simp [hc, State.start, hb]⟩)
  by_cases hz : i = .zeroize
  · exact .inr (.inr (.inl ⟨hb, hz, by subst hz; rw [State.start, State.offerZeroize, if_neg (by simp [hb])]; rfl⟩))
  by_cases he : s.err = .noError
  · have hr : s.Ready := ⟨hb, he⟩
    cases hp : precheck i s.newDraw with
    | some r =>
      refine .inr (.inr (.inr (.inr (.inl ⟨r, hr, hc, hz, rfl, ?_⟩))))
      cases i <;> first
        | exact absurd rfl hc
        | exact absurd rfl hz
        | exact State.offer_raises id hr hp
        | exact State.offer_raises (fun s => s.withIter 0#32) hr hp
    | none =>
      refine .inr (.inr (.inr (.inr (.inr ⟨hr, hc, hz, rfl, ?_⟩))))
      cases i <;> first
        | exact absurd rfl hc
        | exact absurd rfl hz
        | exact State.offer_accepts id hr hp
        | exact State.offer_accepts (fun s => s.withIter 0#32) hr hp
  · exact .inr (.inr (.inr (.inl ⟨hb, hc, hz, he, s.start_latched he hc hz⟩)))

/-- A step that answers a next state is the first step of a run. -/
theorem runSteps_succ {s t : State} (h : step s = .next t) (n : Nat) : runSteps (n + 1) s = runSteps n t := by
  rw [runSteps, h]

/-- With nothing scheduled a run is the engine's turns. -/
theorem runSteps_engine {s : State} (h : s.pending = []) (n : Nat) :
    runSteps n s = .next (Nat.iterate State.engineStep n s) := by
  induction n generalizing s with
  | zero => rfl
  | succ n ih =>
    rw [runSteps_succ (by rw [step, h])]
    exact ih (s.engineStep_pending.trans h)

/-- The opcodes of different commands differ (30_encoding R81). -/
theorem opcode_injective {i j : Instr} (h : opcode i = opcode j) : i = j := by
  cases i <;> cases j <;> first | rfl | (exact absurd h (by decide))

end Sys2Proof.Machine
end

