-- ==== Sys2Proof/Tests/Slice0.lean ====
section
/-! SUPPORT. Tests: the refusals of WellFormed, every command's word, the constants against the spec's checksums, one or
two small commands each (expected values from 95_test_vectors.md, or by hand as said), and for each statement with
hypotheses a state that meets them, at the boundaries of their ranges. -/

namespace Sys2Proof.Tests

open Sys2Proof Sys2Proof.Machine

/-! ## Well-formedness -/

theorem test_wf_word : (Access.read .word 0x1FFC).wf = true ∧ (Access.write .word 0x0000 0#32).wf = true := by decide
theorem test_wf_byte_refused : (Access.read .byte 0x0004).wf = false := by decide
theorem test_wf_halfword_refused : (Access.write .halfword 0x0004 0#32).wf = false := by decide
theorem test_wf_burst_refused : (Access.read .burst 0x0004).wf = false := by decide
theorem test_wf_misaligned_refused : (Access.read .word 0x0006).wf = false := by decide
theorem test_wf_outside_refused : (Access.read .word 0x2000).wf = false := by decide
theorem test_commands_wf : Instr.wf .init = true := rfl

/-! ## Decoding: every word of 30_encoding R81, and the words that are none -/

theorem test_decode_init : decode 0x00000001#32 = .ok .init := by decide
theorem test_decode_xkey : decode 0x00000002#32 = .ok .xkey := by decide
theorem test_decode_xsalt : decode 0x00000003#32 = .ok .xsalt := by decide
theorem test_decode_xeks : decode 0x00000004#32 = .ok .xeks := by decide
theorem test_decode_encblk : decode 0x00000005#32 = .ok .encblk := by decide
theorem test_decode_magic : decode 0x00000006#32 = .ok .magic := by decide
theorem test_decode_derive : decode 0x00000008#32 = .ok .derive := by decide
theorem test_decode_r64enc : decode 0x00000010#32 = .ok .r64enc := by decide
theorem test_decode_r64dec : decode 0x00000011#32 = .ok .r64dec := by decide
theorem test_decode_clrerr : decode 0x00000020#32 = .ok .clrerr := by decide
theorem test_decode_zeroize : decode 0x00000021#32 = .ok .zeroize := by decide

/-- Every other opcode is none (30_encoding R83 (a)). -/
theorem test_decode_unknown : ∀ op : Byte,
    op ∉ [0x01#8, 0x02#8, 0x03#8, 0x04#8, 0x05#8, 0x06#8, 0x08#8, 0x10#8, 0x11#8, 0x20#8, 0x21#8] →
      decode (op.setWidth 32) = .error .unknownOpcode := by decide

/-- Bits 31:8 come first (30_encoding R83 (b)): the lowest and the highest of them. -/
theorem test_decode_high : decode 0x00000101#32 = .error .highBitsNotZero ∧
    decode 0x80000000#32 = .error .highBitsNotZero := by decide

theorem test_table_word : decodeTableWord 32 0x21 = some .zeroize ∧ decodeTableWord 32 0x07 = none ∧
    decodeTableWord 32 0x121 = none := by decide

/-! ## Constants: the checksums of 15_constants section 3, the alphabet table of R54 -/

def checksums (l : List Word) : Word × Word := (l.foldl (· ^^^ ·) 0#32, l.foldl (· + ·) 0#32)

theorem test_sInit0 : checksums sInit0 = (0x4EB4DB7F#32, 0x4B745115#32) := by decide +kernel
theorem test_sInit1 : checksums sInit1 = (0xC727E122#32, 0x72FF37B2#32) := by decide +kernel
theorem test_sInit2 : checksums sInit2 = (0x462A5D01#32, 0x2AC02B91#32) := by decide +kernel
theorem test_sInit3 : checksums sInit3 = (0x1779E2BC#32, 0xF43E3A88#32) := by decide +kernel
theorem test_all_words :
    checksums (pInitWords ++ (sInit0 ++ (sInit1 ++ (sInit2 ++ sInit3)))) = (0x6FFA520A#32, 0x6BBF03AC#32) := by
  decide +kernel

/-- The 24 bytes of 15_constants R53. -/
theorem test_magic_bytes : magicBlocks.flatMap (fun lr => wordBytes lr.1 ++ wordBytes lr.2) =
    [0x4F#8, 0x72#8, 0x70#8, 0x68#8, 0x65#8, 0x61#8, 0x6E#8, 0x42#8, 0x65#8, 0x68#8, 0x6F#8, 0x6C#8,
     0x64#8, 0x65#8, 0x72#8, 0x53#8, 0x63#8, 0x72#8, 0x79#8, 0x44#8, 0x6F#8, 0x75#8, 0x62#8, 0x74#8] := by decide

/-- First and last symbols of the four runs of 15_constants R54. -/
theorem test_alphabet : [0, 1, 2, 27, 28, 53, 54, 63].map (fun v => alphabet (BitVec.ofNat 6 v)) =
    [0x2E#8, 0x2F#8, 0x41#8, 0x5A#8, 0x61#8, 0x7A#8, 0x30#8, 0x39#8] := by decide

/-- The codes just outside the runs are no symbols (15_constants R55). -/
theorem test_inverse_none : ∀ c ∈ [0x2D#8, 0x3A#8, 0x3D#8, 0x40#8, 0x5B#8, 0x60#8, 0x7B#8, 0x80#8, 0xFF#8],
    inv c = none := by decide

/-! ## Small states -/

/-- A transition that ends in a next state of which `p` holds. -/
def endsIn (o : Host.Outcome State Fault Refusal) (p : State → Bool) : Bool :=
  match o with
  | .next t => p t
  | .fault _ => false
  | .refused _ => false

/-- A block after `INIT`, with key bytes and salt bytes written. -/
def block (key salt : List Byte) : State :=
  { State.reset with
    cipher := Cipher.initial
    sv := true
    key := (Buffer.unwritten 72).putFrom 0 key
    keylen := BitVec.ofNat 8 key.length
    salt := (Buffer.unwritten 16).putFrom 0 salt
    cost := 4#8 }

/-- A block with raw bytes written. -/
def rawBlock (raw : List Byte) : State :=
  { State.reset with raw := (Buffer.unwritten 48).putFrom 0 raw, rawlen := BitVec.ofNat 8 raw.length }

/-- A block with symbols written. -/
def symBlock (sym : List Byte) : State :=
  { State.reset with sym := (Buffer.unwritten 64).putFrom 0 sym, symlen := BitVec.ofNat 8 sym.length }

/-- A block with `ERR_CONFIG` latched. -/
def latched : State := { State.reset with err := .config, errinfo := 0x01080003#32 }

/-- A block with every operand byte written with 0, an empty password, cost 4. -/
def full : State :=
  { State.reset with key := Buffer.zeroed 72, salt := Buffer.zeroed 16, keylen := 1#8, cost := 4#8 }

/-- The first four bytes of a buffer of 48 or 64 that are all written. -/
def firstBytes {n : Nat} (buf : Buffer n) (k : Nat) : List Byte := buf.take (fun _ => 0xEE#8) k

/-- The salt of V22. -/
def saltV22 : List Byte := [0x10#8, 0x41#8, 0x04#8, 0x10#8, 0x41#8, 0x04#8, 0x10#8, 0x41#8, 0x04#8, 0x10#8, 0x41#8,
  0x04#8, 0x10#8, 0x41#8, 0x04#8, 0x10#8]

/-! ## Functions -/

/-- `F(S_INIT, 0)` (40_cipher_core R100). -/
theorem test_f : Cipher.initial.f 0#32 = 0x2FCFF51E#32 := by decide +kernel

/-- The key words of 30_encoding R86: literal and signed. -/
theorem test_key_word : (keyWord .literal [0x31#8, 0xA3#8, 0x33#8, 0x34#8] 0).1 = 0x31A33334#32 ∧
    (keyWord .signed [0x31#8, 0xA3#8, 0x33#8, 0x34#8] 0).1 = 0xFFA33334#32 := by decide

/-- The cursor wraps in the middle of a word: three key bytes (by hand from R86). -/
theorem test_key_wrap : keyWord .literal [0x01#8, 0x02#8, 0x00#8] 0 = (0x01020001#32, 1) := by decide

/-! ## Commands -/

/-- V20, R103. -/
theorem test_init : endsIn (exec .init State.reset) (fun t => decide (t.statusWord = 0x00000006#32) &&
    decide (t.seqWord = 0x00000100#32) && decide (t.cipher.subkey 17 = 0x8979FB1B#32) &&
    decide (t.cipher.table 3 255#8 = 0x3AC372E6#32)) = true := by decide +kernel

/-- V21: the first refilled word, key of eight zero bytes. -/
theorem test_xkey : endsIn (exec .xkey (block (List.replicate 8 0#8) []))
    (fun t => decide (t.cipher.subkey 0 = 0x706D9FCC#32)) = true := by decide +kernel

/-- V30: the signed assembly. -/
theorem test_xkey_signed : endsIn (exec .xkey { block [0xA3#8, 0x00#8] [] with version := 3#3 })
    (fun t => decide (t.cipher.subkey 0 = 0x5A2A1C33#32)) = true := by decide +kernel

/-- An all-zero salt as key bytes refills as V28's zero key does (R105). -/
theorem test_xsalt : endsIn (exec .xsalt (block [] (List.replicate 16 0#8)))
    (fun t => decide (t.cipher.subkey 1 = 0x1792D23A#32)) = true := by decide +kernel

/-- V22: `P[0]`, and `P[2]`, for which the second salt pair enters the chain. -/
theorem test_xeks : endsIn (exec .xeks (block [0x55#8, 0x2A#8, 0x55#8, 0x00#8] saltV22))
    (fun t => decide (t.cipher.subkey 0 = 0x74BDE96E#32) && decide (t.cipher.subkey 2 = 0x6E8BE7DE#32)) = true := by
  decide +kernel

/-- The example of R101: the zero block under the initial state. -/
theorem test_encblk : endsIn (exec .encblk (block [] []))
    (fun t => decide (t.dataL = 0x706D9FCC#32) && decide (t.dataR = 0x1792D23A#32)) = true := by decide +kernel

/-- By hand: with all words of `P` and `S` zero, `F` gives 0 and a block encryption only swaps the halves (R101). -/
theorem test_zero_cipher (l r : Word) : Cipher.zero.encryptBlock (l, r) = (r, l) := by
  have hp : ∀ i, Cipher.zero.subkey i = 0#32 := by
    intro i
    rw [Cipher.subkey, Cipher.zero, Vector.getElem?_replicate]
    split <;> rfl
  have hf : ∀ x, Cipher.zero.f x = 0#32 := by
    intro x
    simp [Cipher.f, Cipher.table, Cipher.zero]
  rw [Cipher.encryptBlock_eq]
  simp [List.range, List.range.loop, Cipher.round, hp, hf]

/-- So 64 encryptions do nothing, and the digest is the first 23 bytes of the constant (R121). -/
theorem test_magic : (digestOf Cipher.zero).toList =
    [0x4F#8, 0x72#8, 0x70#8, 0x68#8, 0x65#8, 0x61#8, 0x6E#8, 0x42#8, 0x65#8, 0x68#8, 0x6F#8, 0x6C#8,
     0x64#8, 0x65#8, 0x72#8, 0x53#8, 0x63#8, 0x72#8, 0x79#8, 0x44#8, 0x6F#8, 0x75#8, 0x62#8] := by
  have h : ∀ lr : Word × Word, magicBlock Cipher.zero lr = wordBytes lr.1 ++ wordBytes lr.2 := by
    intro lr
    have h2 : ∀ n, Nat.iterate Cipher.zero.encryptBlock (2 * n) lr = lr := by
      intro n
      induction n with
      | zero => rfl
      | succ n ih => rw [Nat.mul_succ, Nat.iterate, Nat.iterate, test_zero_cipher, test_zero_cipher]; exact ih
    simp only [magicBlock, h2 32]
  rw [digestOf_eq, magicEncrypt, funext h]
  decide

/-- V32: the flags and the count after `DERIVE` with cost 5. -/
theorem test_derive : endsIn (exec .derive { block [0x55#8, 0x2A#8, 0x55#8, 0x00#8] saltV22 with cost := 5#8 })
    (fun t => decide (t.statusWord = 0x00000002#32) && decide (t.iter = 32#32)) = true := by decide +kernel

/-- V77: `ERR_CONFIG`. -/
theorem test_derive_cost : endsIn (exec .derive { block [0x55#8, 0x00#8] saltV22 with cost := 3#8, sv := false })
    (fun t => decide (t.statusWord = 0x00000010#32) && decide (t.errinfo = 0x01080003#32)) = true := by decide +kernel

/-- V43, and R147's second vector. -/
theorem test_r64enc : endsIn (exec .r64enc (rawBlock [0x23#8]))
    (fun t => decide (firstBytes t.sym t.symlen.toNat = [0x47#8, 0x75#8])) = true := by decide +kernel
theorem test_r64enc_two : endsIn (exec .r64enc (rawBlock [0xC3#8, 0x84#8]))
    (fun t => decide (firstBytes t.sym t.symlen.toNat = [0x75#8, 0x32#8, 0x4F#8])) = true := by decide +kernel

/-- V59: a last symbol whose low bits are not zero is accepted. -/
theorem test_r64dec : endsIn (exec .r64dec (symBlock [0x75#8, 0x32#8, 0x50#8]))
    (fun t => decide (firstBytes t.raw t.rawlen.toNat = [0xC3#8, 0x84#8])) = true := by decide +kernel

/-- V71: the lowest bad index. -/
theorem test_r64dec_bad : endsIn (exec .r64dec (symBlock [0x47#8, 0x3D#8, 0x24#8]))
    (fun t => decide (t.statusWord = 0x00000020#32) && decide (t.errinfo = 0x01110001#32)) = true := by decide +kernel

/-- V79. -/
theorem test_clrerr : endsIn (exec .clrerr latched)
    (fun t => decide (t.statusWord = 0#32) && decide (t.errinfo = 0#32) && decide (t.seqWord = 0x00002000#32)) = true := by
  decide +kernel

/-- V81: accepted while an error is latched. -/
theorem test_zeroize : endsIn (exec .zeroize latched)
    (fun t => decide (t.statusWord = 0x00000002#32) && decide (t.seqWord = 0x00002100#32)
      && decide (t.readReg (.keyw 17) = 0#32)) = true := by decide +kernel

/-- V104: reserved bits ignore writes. -/
theorem test_register : (State.reset.hostWrite .cost 0x000001FF#32).readReg .cost = 0x000000FF#32 := by decide

/-- V106: the first byte is the most significant. -/
theorem test_packing : firstBytes (State.reset.hostWrite (.keyw 0) 0x61626300#32).key 4 =
    [0x61#8, 0x62#8, 0x63#8, 0x00#8] := by decide +kernel

/-- Offsets of 20_memory R61 at both ends. -/
theorem test_map : regOf 0x0000 = .cmd ∧ regOf 0x002C = .symlen ∧ regOf 0x0054 = .digestw 5 ∧ regOf 0x0058 = .reserved ∧
    regOf 0x00C4 = .keyw 17 ∧ regOf 0x0144 = .p 17 ∧ regOf 0x022C = .raww 11 ∧ regOf 0x027C = .symw 15 ∧
    regOf 0x0FFC = .reserved ∧ regOf 0x1C00 = .s 3 0 ∧ regOf 0x1FFC = .s 3 255 := by decide

/-! ## Host sequences: program PR5 of 95_test_vectors -/

/-- The writes of a list of events, with their offsets. -/
def writesOf (es : List Event) : List (Nat × Word) :=
  es.filterMap fun e => match e with
    | .access (.write _ off v) => some (off, v)
    | .access (.read _ _) => none
    | .engine => none
    | .reset => none

/-- The two encoded fields of PR5's stored string, and the salt field of its variant (b). -/
def saltSymbols : List Byte := List.replicate 21 0x43#8 ++ [0x2E#8]
def badSaltSymbols : List Byte := List.replicate 20 0x43#8 ++ [0x24#8, 0x2E#8]
def digestSymbols : List Byte := [0x45#8, 0x35#8, 0x59#8, 0x50#8, 0x4F#8, 0x39#8, 0x6B#8, 0x6D#8, 0x79#8, 0x75#8, 0x52#8,
  0x47#8, 0x79#8, 0x68#8, 0x30#8, 0x58#8, 0x6F#8, 0x75#8, 0x51#8, 0x59#8, 0x62#8, 0x34#8, 0x59#8, 0x4D#8, 0x4A#8, 0x4B#8,
  0x76#8, 0x79#8, 0x4F#8, 0x65#8, 0x57#8]

/-- The 28 writes of PR5. -/
theorem test_verify : writesOf (verifyLines saltSymbols digestSymbols [0x55#8, 0x2A#8, 0x55#8, 0x00#8] 5#8 1#3
      { saltStatus := 0x00000002#32, salt := saltV22, digestStatus := 0x00000002#32 }) =
    [(0x0240, 0x43434343#32), (0x0244, 0x43434343#32), (0x0248, 0x43434343#32), (0x024C, 0x43434343#32),
     (0x0250, 0x43434343#32), (0x0254, 0x432E0000#32), (0x002C, 0x00000016#32), (0x0000, 0x00000011#32),
     (0x0240, 0x45355950#32), (0x0244, 0x4F396B6D#32), (0x0248, 0x79755247#32), (0x024C, 0x79683058#32),
     (0x0250, 0x6F755159#32), (0x0254, 0x6234594D#32), (0x0258, 0x4A4B7679#32), (0x025C, 0x4F655700#32),
     (0x002C, 0x0000001F#32), (0x0000, 0x00000011#32), (0x0080, 0x552A5500#32), (0x0014, 0x00000004#32),
     (0x0030, 0x10410410#32), (0x0034, 0x41041041#32), (0x0038, 0x04104104#32), (0x003C, 0x10410410#32),
     (0x000C, 0x00000005#32), (0x0010, 0x00000001#32), (0x0000, 0x00000008#32), (0x0000, 0x00000021#32)] := by
  decide +kernel

/-- What ends an invocation that meets a malformed field: `CLRERR` and `ZEROIZE` (R176, R180). -/
def malformedEnd : List (Nat × Word) := [(0x0000, 0x00000011#32), (0x0000, 0x00000020#32), (0x0000, 0x00000021#32)]

/-- Variant (b): after `ERR = 2` for the salt field the digest field is not decoded. -/
theorem test_verify_malformed_salt : (writesOf (verifyLines badSaltSymbols digestSymbols [0x00#8] 5#8 1#3
    { saltStatus := 0x00000020#32, salt := [], digestStatus := 0x00000000#32 })).drop 7 = malformedEnd := by decide +kernel

/-- The same for the digest field. -/
theorem test_verify_malformed_digest : (writesOf (verifyLines saltSymbols digestSymbols [0x00#8] 5#8 1#3
    { saltStatus := 0x00000002#32, salt := saltV22, digestStatus := 0x00000020#32 })).drop 17 = malformedEnd := by
  decide +kernel

/-- `HASH` with a cost that `DERIVE` refuses: no digest is read and nothing encoded (R175, R180). -/
theorem test_hash_stops : (hashLines [0x00#8] saltV22 3#8 1#3 0x00000010#32 []).reverse.take 4 =
    [.access (.read .word 0x0004), .access (.write .word 0x0000 0x00000021#32), .access (.read .word 0x0004),
     .access (.read .word 0x0004)] := by decide +kernel

/-! ## Witnesses -/

theorem ready_reset : State.reset.Ready := ⟨rfl, rfl⟩
theorem ready_block (key salt : List Byte) : (block key salt).Ready := ⟨rfl, rfl⟩
theorem ready_full : full.Ready := ⟨rfl, rfl⟩
theorem usable_short : State.KeyUsable { full with version := 4#3 } := ⟨by decide, by decide, by decide⟩
theorem usable_long : State.KeyUsable { full with keylen := 72#8 } := ⟨by decide, by decide, by decide⟩
theorem written_full : full.OperandsWritten := ⟨by decide, by decide⟩

theorem witness_DecodeAndEncodeAgree : decode 0x21#32 = .ok .zeroize := by decide
theorem witness_IllegalWordRaisesIllegal : State.reset.Ready ∧ (0x100#32 : Word) >>> 8 ≠ 0#32 ∧
    (0xFF#32 : Word) >>> 8 = 0#32 ∧ (0x21#32 : Word) >>> 8 = 0#32 := ⟨ready_reset, by decide, by decide, by decide⟩
theorem witness_StepRunsTheWrittenCommand :
    (State.reset.withFetchWord 32 4).pending = .access (.write .word 0x0000 0x4#32) :: [] ∧
    decode 0x4#32 = .ok .xeks ∧ (State.reset.withFetchWord 32 4).stepwise = false ∧
    ({ State.reset.withFetchWord 32 4 with stepwise := true } : State).stepwise = true := ⟨rfl, by decide, rfl, rfl⟩
theorem witness_OnlyAlignedWordsInTheWindow : ∀ a ∈ [Access.read .word 0x2000, .read .word 0x1FFE, .read .byte 0x1FFC,
    .read .word 0x1FFC], ({ State.reset with pending := [.access a] } : State).pending = .access a :: [] :=
  fun _ _ => rfl
theorem witness_InitLoadsTheConstants : State.reset.Ready := ready_reset
theorem witness_XkeyExpandsTheKey : State.Ready { full with sv := true } ∧ State.KeyUsable { full with sv := true } ∧
    ({ full with sv := true } : State).sv = true := ⟨⟨rfl, rfl⟩, ⟨by decide, by decide, by decide⟩, rfl⟩
theorem witness_XsaltExpandsTheSalt : ((block [] []).Ready ∧ (block [] []).sv = true) ∧
    State.reset.Ready ∧ State.reset.sv = false := ⟨⟨⟨rfl, rfl⟩, rfl⟩, ready_reset, rfl⟩
theorem witness_XeksExpandsKeyWithSalt : State.Ready { full with sv := true } ∧ State.KeyUsable { full with sv := true } ∧
    ({ full with sv := true } : State).sv = true := ⟨⟨rfl, rfl⟩, ⟨by decide, by decide, by decide⟩, rfl⟩
theorem witness_EncblkEncryptsTheBlock : ((block [] []).Ready ∧ (block [] []).sv = true) ∧
    State.reset.Ready ∧ State.reset.sv = false := ⟨⟨⟨rfl, rfl⟩, rfl⟩, ready_reset, rfl⟩
theorem witness_MagicWritesTheDigest : ((block [] []).Ready ∧ (block [] []).sv = true) ∧
    State.reset.Ready ∧ State.reset.sv = false := ⟨⟨⟨rfl, rfl⟩, rfl⟩, ready_reset, rfl⟩
theorem witness_DeriveWritesTheDigest : ∀ c : Byte, c = 4#8 ∨ c = 31#8 → State.Ready { full with cost := c } ∧
    State.KeyUsable { full with cost := c } ∧ 4 ≤ c.toNat ∧ c.toNat ≤ 31 := by
  rintro c (rfl | rfl) <;> exact ⟨⟨rfl, rfl⟩, ⟨by decide, by decide, by decide⟩, by decide, by decide⟩
theorem witness_R64encWritesTheSymbols : (State.Ready { full with rawlen := 48#8 } ∧
    ({ full with rawlen := 48#8 } : State).rawlen.toNat ≤ 48) ∧ State.Ready { full with rawlen := 49#8 } ∧
    48 < ({ full with rawlen := 49#8 } : State).rawlen.toNat := ⟨⟨⟨rfl, rfl⟩, by decide⟩, ⟨rfl, rfl⟩, by decide⟩
theorem witness_R64decWritesTheBytes : (symBlock [0x47#8, 0x75#8]).Ready ∧ (symBlock [0x47#8, 0x75#8]).symlen.toNat ≤ 64 ∧
    (symBlock [0x47#8, 0x75#8]).symlen.toNat % 4 ≠ 1 ∧
    ∀ c ∈ (symBlock [0x47#8, 0x75#8]).newDraw.symBytes, (inv c).isSome = true :=
  ⟨⟨rfl, rfl⟩, by decide, by decide, by decide +kernel⟩
theorem witness_ClrerrClearsTheLatch : latched.busy = false ∧ latched.err ≠ .noError := by decide
theorem witness_ZeroizeErasesEverything : latched.busy = false ∧ latched.err ≠ .noError ∧
    ({ full with busy := true } : State).busy = true := by decide
theorem witness_ReservedVersionRaisesIllegal :
    (State.Ready { full with version := 5#3 } ∧ 5 ≤ (5#3 : BitVec 3).toNat) ∧
    (State.Ready { full with version := 3#3, mode2x := .refuse } ∧ (3#3 : BitVec 3).toNat = 3 ∧
      ({ full with version := 3#3, mode2x := .refuse } : State).mode2x = .refuse) :=
  ⟨⟨⟨rfl, rfl⟩, by decide⟩, ⟨rfl, rfl⟩, by decide, rfl⟩
theorem witness_InvalidCipherStateRaisesState : State.reset.Ready ∧ State.reset.sv = false ∧
    State.reset.versionReserved = false := ⟨ready_reset, rfl, by decide⟩
theorem witness_BadKeyLengthRaises : ∀ n ∈ [0#8, 1#8, 72#8, 73#8, 255#8],
    State.Ready { full with keylen := n, sv := true } ∧
    State.versionReserved { full with keylen := n, sv := true } = false ∧
    ({ full with keylen := n, sv := true } : State).sv = true := by
  intro n hn
  exact ⟨⟨rfl, rfl⟩, rfl, rfl⟩
/-- The second clause: an empty key raises `ERR_VALIDATION`. -/
theorem witness_BadKeyLengthRaises_validation : State.Ready { full with keylen := 0#8 } ∧
    ∃ t, exec .derive { full with keylen := 0#8 } = .next t ∧ t.err = .validation :=
  ⟨⟨rfl, rfl⟩, _, rfl, rfl⟩
theorem witness_BadCostRaisesConfig : ∀ c : Byte, c = 3#8 ∨ c = 32#8 → State.Ready { full with cost := c } ∧
    State.KeyUsable { full with cost := c } ∧ (c.toNat < 4 ∨ 31 < c.toNat) := by
  rintro c (rfl | rfl) <;> exact ⟨⟨rfl, rfl⟩, ⟨by decide, by decide, by decide⟩, by decide⟩
theorem witness_OverCapacityRaisesCapacity : State.Ready { full with rawlen := 49#8, symlen := 65#8 } ∧
    48 < (49#8 : Byte).toNat ∧ 64 < (65#8 : Byte).toNat := ⟨⟨rfl, rfl⟩, by decide, by decide⟩
theorem witness_BadSymbolsRaiseFormat :
    (State.Ready { full with symlen := 61#8 } ∧ (61#8 : Byte).toNat ≤ 64 ∧ (61#8 : Byte).toNat % 4 = 1) ∧
    (symBlock [0x47#8, 0x3D#8]).Ready ∧ (symBlock [0x47#8, 0x3D#8]).symlen.toNat = 2 ∧
    ((symBlock [0x47#8, 0x3D#8]).newDraw.symBytes[1]?.bind inv) = none ∧
    ∀ j : Nat, j < 1 → ((symBlock [0x47#8, 0x3D#8]).newDraw.symBytes[j]?.bind inv).isSome = true :=
  ⟨⟨⟨rfl, rfl⟩, by decide, by decide⟩, ⟨rfl, rfl⟩, by decide, by decide +kernel, by decide +kernel⟩
theorem witness_ErrorsArePrecise : State.reset.Ready ∧ ∀ w ∈ [0x08#32, 0x00#32, 0x101#32],
    ∃ t, State.reset.commandWrite w = .next t ∧ t.err ≠ .noError := by
  refine ⟨ready_reset, fun w hw => ?_⟩
  simp only [List.mem_cons, List.not_mem_nil, or_false] at hw
  rcases hw with rfl | rfl | rfl <;> exact ⟨_, rfl, by decide⟩
theorem witness_LatchedErrorIgnoresCommands : latched.busy = false ∧ latched.err ≠ .noError ∧
    (0x1F#32 : Word) ≠ 0x20#32 ∧ (0x22#32 : Word) ≠ 0x21#32 := by decide
theorem inv_latched : latched.Inv := State.inv_of_idle rfl (fun _ => rfl) rfl (fun h => absurd h (by decide))
theorem witness_OnlyClearingCommandsUnlatch : ∀ e ∈ [Event.reset, .engine, .access (.write .word 0x0000 0x20#32),
    .access (.write .word 0x0000 0x21#32), .access (.write .word 0x0000 0x01#32)],
    State.Inv { latched with pending := [e] } ∧ ({ latched with pending := [e] } : State).err ≠ .noError ∧
    ∃ t, step { latched with pending := [e] } = .next t := by
  intro e he
  refine ⟨State.inv_pending inv_latched [e], fun h => ErrCode.noConfusion h, ?_⟩
  simp only [List.mem_cons, List.not_mem_nil, or_false] at he
  rcases he with rfl | rfl | rfl | rfl | rfl <;> exact ⟨_, rfl⟩
theorem witness_LiteralKeyWordIsBigEndian : 0 < [0x61#8].length ∧ 71 < (List.replicate 72 0x61#8).length := by decide
theorem witness_KeyWordModesAgreeOnAscii : ∀ b ∈ [0x00#8, 0x7F#8], b.msb = false := by decide
theorem witness_SaltAsKeyGivesSaltWords : saltV22.length = 16 := by decide
theorem witness_XeksWithZeroSaltIsXkey : State.Ready { full with sv := true } ∧ State.KeyUsable { full with sv := true } ∧
    ({ full with sv := true } : State).sv = true ∧ ({ full with sv := true } : State).salt = Buffer.zeroed 16 :=
  ⟨⟨rfl, rfl⟩, ⟨by decide, by decide, by decide⟩, rfl, rfl⟩
/-- A key buffer that differs from `full`'s in every byte beyond its one key byte. -/
theorem witness_BytesBeyondKeylenIgnored : ∃ k : Buffer 72, k ≠ full.key ∧ ∀ j, j < full.keylen.toNat →
    k.bytes[j]? = full.key.bytes[j]? ∧ k.written[j]? = full.key.written[j]? := by
  refine ⟨full.key.put 1 0xAA#8, by decide, fun j hj => ?_⟩
  have hj : j < 1 := hj
  obtain rfl : j = 0 := by omega
  decide
theorem witness_DigestDependsOnOperandsOnly : full.Ready ∧ State.Ready { full with version := 4#3, sv := true } ∧
    full.KeyUsable ∧ State.KeyUsable { full with version := 4#3, sv := true } ∧ 4 ≤ full.cost.toNat ∧
    full.cost.toNat ≤ 31 ∧ full.OperandsWritten ∧ State.OperandsWritten { full with version := 4#3, sv := true } ∧
    ((4#3 : BitVec 3) = 3#3 ↔ full.version = 3#3) ∧ (∃ t, exec .derive full = .next t) ∧
    ∃ t, exec .derive { full with version := 4#3, sv := true } = .next t :=
  ⟨ready_full, ⟨rfl, rfl⟩, ⟨by decide, by decide, by decide⟩, ⟨by decide, by decide, by decide⟩, by decide, by decide,
    written_full, ⟨by decide, by decide⟩, by decide, ⟨_, rfl⟩, _, rfl⟩
theorem witness_AsciiKeyDigestIgnoresVersion : full.Ready ∧ full.KeyUsable ∧ 4 ≤ full.cost.toNat ∧ full.cost.toNat ≤ 31 ∧
    (4#3 : BitVec 3).toNat ≤ 4 ∧ full.mode2x = .signext ∧ (∀ b ∈ full.newDraw.keyBytes, b.msb = false) ∧
    (∃ t, exec .derive full = .next t) ∧ ∃ t, exec .derive { full with version := 3#3 } = .next t :=
  ⟨ready_full, ⟨by decide, by decide, by decide⟩, by decide, by decide, by decide, rfl, by decide +kernel, ⟨_, rfl⟩, _, rfl⟩
theorem witness_HandDrivenScheduleMatchesDerive : full.Ready ∧ full.KeyUsable ∧ 4 ≤ full.cost.toNat ∧
    full.cost.toNat ≤ 31 ∧ full.OperandsWritten :=
  ⟨ready_full, ⟨by decide, by decide, by decide⟩, by decide, by decide, written_full⟩
theorem witness_RadixLengthLaw_symbols : 0x47#8 ∈ r64Encode [0x23#8] := by decide +kernel
theorem witness_RadixLengthLaw : r64Decode [] = .ok [] ∧ r64Decode [0x47#8, 0x75#8] = .ok [0x23#8] ∧
    r64Decode [0x75#8, 0x32#8, 0x4F#8] = .ok [0xC3#8, 0x84#8] ∧
    r64Decode [0x57#8, 0x55#8, 0x48#8, 0x68#8] = .ok [0x61#8, 0x62#8, 0x63#8] ∧
    r64Decode [0x47#8] = .error (.truncatedGroup 1) := by decide +kernel
theorem witness_RadixRoundTrip : discardedZero [0x47#8, 0x75#8] = true ∧ discardedZero [0x47#8, 0x76#8] = false ∧
    r64Decode [0x47#8, 0x76#8] = .ok [0x23#8] := by decide +kernel
/-- Each outcome at the ends of its range; the second string's discarded bits are not zero (V57). -/
theorem witness_DecoderReportsLowestBadSymbol :
    r64Decode [0x47#8] = .error (.truncatedGroup 1) ∧ r64Decode [0x47#8, 0x76#8] = .ok [0x23#8] ∧
    ([0x47#8, 0x76#8] : List Byte).length % 4 ≠ 1 ∧ (∀ c ∈ [0x47#8, 0x76#8], (inv c).isSome = true) ∧
    r64Decode [0x3D#8, 0x47#8] = .error (.symbol 0) ∧ r64Decode [0x47#8, 0x3D#8, 0x24#8] = .error (.symbol 1) ∧
    r64Decode [0x47#8, 0x47#8, 0x24#8] = .error (.symbol 2) ∧
    inv 0x2E#8 = some 0#6 ∧ inv 0x39#8 = some 63#6 := by decide +kernel
theorem witness_CodecKeepsBytesBeyondLength : (State.Ready { full with rawlen := 48#8 } ∧
    (48#8 : Byte).toNat ≤ 48 ∧ ∃ t, exec .r64enc { full with rawlen := 48#8 } = .next t) ∧
    full.Ready ∧ ∃ t, exec .r64dec full = .next t ∧ t.err = .noError :=
  ⟨⟨⟨rfl, rfl⟩, by decide, _, rfl⟩, ready_full, _, rfl, by decide +kernel⟩
theorem witness_RegisterMapIsOneToOne : (Reg.s 3 255).offset = some 0x1FFC ∧ (Reg.cmd).offset = some 0 ∧
    0x1FFC < 0x2000 ∧ 0x1FFC % 4 = 0 := by decide
theorem witness_ReadsHaveNoSideEffect : ({ State.reset with pending := [.access (.read .word 0x1FFC)] } : State).pending =
    .access (.read .word 0x1FFC) :: [] ∧ 0x1FFC < 0x2000 ∧ 0x1FFC % 4 = 0 := ⟨rfl, by decide, by decide⟩
/-- Writes at the first offset after `CMD` and at the last of the window, also while an error is latched. -/
theorem witness_WrittenRegistersReadBack : latched.busy = false ∧ ∀ off ∈ [0x0004, 0x1FFC],
    ({ latched with pending := [.access (.write .word off 1#32)] } : State).pending = .access (.write .word off 1#32) :: [] ∧
    off < 0x2000 ∧ off % 4 = 0 ∧ off ≠ 0 := by
  refine ⟨rfl, fun off h => ⟨rfl, ?_⟩⟩
  revert off
  decide
theorem witness_WritesTouchOneRegister : State.reset.busy = false ∧ Reg.keyw 0 ≠ .cmd ∧ Reg.keyw 0 ≠ .keyw 17 :=
  ⟨rfl, by decide, by decide⟩
theorem witness_WrongDirectionAccesses : Reg.seq ∈ [Reg.status, .errinfo, .iter, .seq, .reserved] ∧
    State.reset.busy = false := ⟨by decide, rfl⟩
/-- A block in the middle of `DERIVE`, the host about to write at the last offset of the window. -/
theorem witness_BusyBlockIgnoresWrites : ({ full with busy := true } : State).busy = true ∧ 0x1FFC < 0x2000 ∧
    ({ full with busy := true, pending := [.access (.write .word 0x1FFC 1#32)] } : State).pending =
      .access (.write .word 0x1FFC 1#32) :: [] ∧ Reg.cmd ∉ [Reg.status, .seq, .iter, .reserved] :=
  ⟨rfl, by decide, rfl, by decide⟩
theorem witness_UnwrittenCellsAreFree : State.reset.busy = false ∧ State.reset.sv = false ∧
    State.reset.cipherZeroed = false ∧ 71 < (72#8 : Byte).toNat := ⟨rfl, rfl, rfl, by decide⟩
theorem witness_ZeroizedBlockReadsZero : latched.busy = false ∧ ∃ t, exec .zeroize latched = .next t := ⟨rfl, _, rfl⟩
theorem witness_DigestReadsAsSixWords : State.reset.busy = false := rfl
theorem witness_ResetValues : ({ full with busy := true, pending := [.reset] } : State).pending = .reset :: [] := rfl
/-- `DERIVE` in each of its phases. -/
theorem witness_DerivePhaseOrder : ∀ p ∈ [Phase.pInit, .pXeks, .pXkey, .pXsalt, .pMagic],
    ({ full with busy := true, opc := 8#8, phase := p } : State).busy = true ∧
    ({ full with busy := true, opc := 8#8, phase := p } : State).opc = 0x08#8 ∧
    ({ full with busy := true, opc := 8#8, phase := p } : State).phase = p := fun _ _ => ⟨rfl, rfl, rfl⟩
theorem witness_StepwiseRunMatchesExec : full.busy = false ∧ decode 0x8#32 = .ok .derive ∧
    ({ full with stepwise := true, pending := [.access (.write .word 0x0000 0x8#32)] } : State).stepwise = true :=
  ⟨rfl, by decide, rfl⟩
theorem witness_EngineStepCount : full.Ready ∧ full.busy = false ∧ precheck .derive full.newDraw = none :=
  ⟨ready_full, rfl, by decide⟩
theorem witness_StepKeepsTheInvariant : latched.Inv ∧ ∃ t, step latched = .next t := ⟨inv_latched, _, rfl⟩
theorem witness_StatusAndSeqWords : latched.Inv ∧ latched.statusWord &&& 0xF0#32 ≠ 0#32 :=
  ⟨inv_latched, by decide +kernel⟩
theorem inv_reset : State.reset.Inv := State.inv_of_idle rfl (fun _ => rfl) rfl (fun h => absurd h (by decide))
/-- A stepwise block that has accepted `INIT`. -/
def initBusy : State := { State.reset with stepwise := true, busy := true, opc := 0x01#8, phase := .pInit }
theorem inv_initBusy : initBusy.Inv where
  busy_not_done _ := rfl
  err_idle h := absurd rfl h
  idle_phase h := Bool.noConfusion h
  busy_command _ := ⟨.init, rfl, .head _, rfl⟩
  derive_iter _ h := absurd h (by decide)
  zeroed h := absurd h (by decide)
  derive_not_zeroed _ h := absurd h (by decide)
/-- The write of `INIT`, and an engine turn, for want of an event and scheduled. -/
theorem witness_OnlyInitSetsSv :
    ((State.reset.withFetchWord 32 1).Inv ∧ (State.reset.withFetchWord 32 1).sv = false ∧
      ∃ t, step (State.reset.withFetchWord 32 1) = .next t ∧ t.sv = true) ∧
    (initBusy.Inv ∧ initBusy.sv = false ∧ ∃ t, step initBusy = .next t ∧ t.sv = true) ∧
    (State.Inv { initBusy with pending := [.engine] } ∧ ∃ t, step { initBusy with pending := [.engine] } = .next t ∧
      t.sv = true) :=
  ⟨⟨State.inv_pending inv_reset _, rfl, _, rfl, rfl⟩, ⟨inv_initBusy, rfl, _, rfl, rfl⟩, State.inv_pending inv_initBusy _,
    _, rfl, rfl⟩
theorem witness_OnlyCommandsReachTheEngine : (∃ t, step { full with pending := [.access (.write .word 0x0080 1#32)] } =
    .next t) ∧ ∀ v, Access.write .word 0x0080 1#32 ≠ .write .word 0x0000 v :=
  ⟨⟨_, rfl⟩, fun v h => by simp at h⟩

end Sys2Proof.Tests
end

/-! The state family: what a command written or an engine turn does to the block, the invariant and that every step keeps it,
who writes `SV`, the key buffer beyond `KEYLEN`, what `STATUS`, `SEQ` and the digest words show, and reset. -/

namespace Sys2Proof.Machine

/-! ## Commands: the work of each one, and what a write of it can do -/

/-- What command `i` does to the state that has accepted it, all its phases together; `CLRERR` has no phase. -/
def State.workOf (s : State) : Instr → State
  | .init => s.initWork
  | .xkey => s.xkeyWork
  | .xsalt => s.xsaltWork
  | .xeks => s.xeksWork
  | .encblk => s.encblkWork
  | .magic => s.magicWork
  | .derive => s.deriveWork
  | .r64enc => s.r64encWork
  | .r64dec => s.r64decWork
  | .clrerr => s
  | .zeroize => s.zeroizeWork

/-- Every command but the two of the system group is offered, does its work and is finished (30_encoding R82). -/
theorem exec_eq_offer {i : Instr} (hc : i ≠ .clrerr) (hz : i ≠ .zeroize) (s : State) :
    exec i s = .next (s.offer i fun s => (s.workOf i).finish) := by
  cases i with
  | clrerr => exact absurd rfl hc
  | zeroize => exact absurd rfl hz
  | _ => rfl

/-- What a command write does in a machine that performs commands whole: the cases of `State.start_cases`, with the
command's work done where that one only accepts it. -/
theorem exec_cases (s : State) (i : Instr) :
    (s.busy = true ∧ exec i s = .next s) ∨
    (s.busy = false ∧ i = .clrerr ∧ exec i s = .next s.clearError) ∨
    (s.busy = false ∧ i = .zeroize ∧ exec i s =
      .next (State.workOf { s.newDraw.accept .zeroize with err := .noError, errinfo := 0#32 } i).finish) ∨
    (s.busy = false ∧ s.err ≠ .noError ∧ exec i s = .next s) ∨
    (∃ r, s.Ready ∧ precheck i s.newDraw = some r ∧ exec i s = .next (s.newDraw.raise (opcode i) r)) ∨
    (s.Ready ∧ precheck i s.newDraw = none ∧ exec i s = .next ((s.newDraw.accept i).workOf i).finish) := by
  by_cases hb : s.busy = true
  · exact .inl ⟨hb, s.exec_busy hb i⟩
  have hb : s.busy = false := by simpa using hb
  by_cases hc : i = .clrerr
  · exact .inr (.inl ⟨hb, hc, by subst hc; simp [exec, execClrerr, hb]⟩)
  by_cases hz : i = .zeroize
  · exact .inr (.inr (.inl ⟨hb, hz, by subst hz; simp [exec, execZeroize, State.offerZeroize, hb, State.workOf]⟩))
  rw [exec_eq_offer hc hz]
  rcases s.offer_cases i (fun s => (s.workOf i).finish) with
    ⟨hb', _⟩ | ⟨_, he, h⟩ | ⟨r, hr, hp, h⟩ | ⟨hr, hp, h⟩
  · exact absurd hb' (by simp [hb])
  · exact .inr (.inr (.inr (.inl ⟨hb, he, by rw [h]⟩)))
  · exact .inr (.inr (.inr (.inr (.inl ⟨r, hr, hp, by rw [h]⟩))))
  · exact .inr (.inr (.inr (.inr (.inr ⟨hr, hp, by rw [h]⟩))))

/-- No command's work latches an error (30_encoding R82: "A command once accepted cannot fail"). -/
theorem State.workOf_err {s : State} (h : s.err = .noError) (i : Instr) : (s.workOf i).err = .noError := by
  cases i with
  | zeroize => rfl
  | _ => exact h

/-- The work of no command but `INIT` makes `SV` 1 (10_state R22). -/
theorem State.workOf_sv {s : State} (h : s.sv = false) {i : Instr} (hi : i ≠ .init) : (s.workOf i).sv = false := by
  cases i with
  | init => exact absurd rfl hi
  | derive => rfl
  | zeroize => rfl
  | _ => exact h

/-! ## The decoder -/

/-- The opcode that the map reads as a command is that command's (30_encoding R81). -/
theorem opcode_of_instrOfOpcode {op : Byte} {i : Instr} (h : instrOfOpcode op = some i) : opcode i = op := by
  unfold instrOfOpcode at h
  repeat' split at h
  all_goals cases h
  all_goals exact Eq.symm ‹_›

/-- A word is its two fields (30_encoding R80). -/
theorem eq_setWidth_opcField {w : Word} (h : zeroField w = 0#24) : w = (opcField w).setWidth 32 := by
  have h8 : w.toNat >>> 8 % 2 ^ 24 = 0 := by simpa [zeroField] using congrArg BitVec.toNat h
  apply BitVec.eq_of_toNat_eq
  simp [opcField, Nat.shiftRight_eq_div_pow] at h8 ⊢
  omega

/-- A word that decodes is its command's word (30_encoding R80, R81). -/
theorem eq_encode_of_decode {w : Word} {i : Instr} (h : decode w = .ok i) : w = encode i := by
  unfold decode at h
  split at h
  case isFalse => cases h
  case isTrue hz =>
    split at h
    case h_2 => cases h
    case h_1 hop =>
      cases h
      rw [encode, opcode_of_instrOfOpcode hop]
      exact eq_setWidth_opcField hz

/-! ## The engine -/

/-- In the one phase of a command other than `DERIVE` the engine does the command's work and finishes it
(41_key_schedule R125). -/
theorem State.engineStep_eq_finish_workOf {s : State} {i : Instr} (hb : s.busy = true) (ho : s.opc = opcode i)
    (hp : s.phase ∈ phasesOf i) (hd : i ≠ .derive) : s.engineStep = (s.workOf i).finish := by
  have hn : s.inDerive = false := by
    rw [State.inDerive, decide_eq_false_iff_not, ho]
    exact fun e => hd (opcode_injective e)
  cases i with
  | derive => exact absurd rfl hd
  | clrerr => simp [phasesOf] at hp
  | _ =>
    simp only [phasesOf, List.mem_singleton] at hp
    simp [State.engineStep, hb, hp, hn, State.workOf]

/-- While `DERIVE` runs, its phase `P_INIT` included, the engine never makes `SV` 1 (41_key_schedule R124, R125). -/
theorem State.engineStep_derive_sv {s : State} (hb : s.busy = true) (ho : s.opc = opcode .derive)
    (hp : s.phase ∈ phasesOf .derive) (h : s.sv = false) : s.engineStep.sv = false := by
  rcases State.engineStep_derive hb (decide_eq_true ho) hp with
    ⟨_, e⟩ | ⟨_, e⟩ | ⟨_, e⟩ | ⟨_, e⟩ | ⟨_, e⟩ <;> simp [e, h]

/-! ## The invariant -/

/-- What a reset leaves is idle, with no error and nothing zeroized, and so meets the invariant (10_state R40). -/
theorem State.inv_resetBlock (s : State) : s.resetBlock.Inv :=
  State.inv_of_idle rfl (fun _ => rfl) rfl (fun h => Bool.noConfusion h)

/-- Settles O56: the reset state is what a reset makes of itself. -/
theorem resetMeetsTheInvariant : Obligations.ResetMeetsTheInvariant :=
  State.inv_resetBlock State.reset

/-- A busy block has no error latched (10_state R31). -/
theorem State.Inv.err_of_busy {s : State} (h : s.Inv) (hb : s.busy = true) : s.err = .noError := by
  by_contra he
  simp [(h.err_idle he).1] at hb

/-- The clause `zeroed` of the invariant by itself, for states of which the rest is still to be shown: `P` and `S` are zero and
`SV = 0` while they read 0 after `ZEROIZE` (20_memory R69). -/
def State.ZeroizedFits (s : State) : Prop := s.cipherZeroed = true → s.sv = false ∧ s.cipher = Cipher.zero

/-- The clause of the invariant about a zeroized cipher state holds after the work of every command whose checks hold: the
commands that rewrite the cipher state are not accepted with `SV = 0`, or end the zeroized state (20_memory R69). -/
theorem State.workOf_zeroizedFits {s : State} {i : Instr} (hp : precheck i s = none)
    (hz : s.ZeroizedFits) : (s.workOf i).ZeroizedFits := by
  have not_zeroed (hc : readsCipher i = true) : s.cipherZeroed ≠ true := fun h => by
    simpa [(hz h).1] using sv_of_precheck hc hp
  cases i with
  | init => exact fun h => Bool.noConfusion h
  | derive => exact fun h => Bool.noConfusion h
  | zeroize => exact fun _ => ⟨rfl, rfl⟩
  | xkey => exact fun h => absurd h (not_zeroed rfl)
  | xsalt => exact fun h => absurd h (not_zeroed rfl)
  | xeks => exact fun h => absurd h (not_zeroed rfl)
  | _ => exact hz

/-- A command whose checks hold ends in a state that meets the invariant. -/
theorem State.inv_finish_workOf {s : State} {i : Instr} (he : s.err = .noError) (hp : precheck i s = none)
    (hz : s.ZeroizedFits) : (s.workOf i).finish.Inv :=
  State.inv_of_idle rfl (fun h => absurd (State.workOf_err he i) h) rfl (State.workOf_zeroizedFits hp hz)

/-- `ZEROIZE` has no check (43_system R161). -/
@[simp] theorem precheck_zeroize (s : State) : precheck .zeroize s = none := by
  simp [precheck, readsKey, readsCipher]

/-- Taking an error on an idle block keeps the invariant (60_exceptions R210). -/
theorem State.Inv.raise {s : State} (h : s.Inv) (hb : s.busy = false) (op : Byte) (r : ErrorReport) :
    (s.newDraw.raise op r).Inv :=
  State.inv_of_idle hb (fun _ => rfl) (h.idle_phase hb) h.zeroed

/-- The return from an error keeps the invariant (43_system R160). -/
theorem State.Inv.clearError {s : State} (h : s.Inv) (hb : s.busy = false) : s.clearError.Inv :=
  State.inv_of_idle hb (fun _ => rfl) (h.idle_phase hb) h.zeroed

/-- The first phase of a command that has one is a phase of that command (41_key_schedule R125). -/
theorem firstPhase_mem_phasesOf {i : Instr} (h : i ≠ .clrerr) : firstPhase i ∈ phasesOf i := by
  cases i with
  | clrerr => exact absurd rfl h
  | _ => exact List.mem_cons_self

/-- A command other than `DERIVE` that is accepted keeps the invariant (30_encoding R82). -/
theorem State.inv_accept {s : State} {i : Instr} (he : s.err = .noError) (hc : i ≠ .clrerr) (hd : i ≠ .derive)
    (hp : precheck i s = none) (hz : s.ZeroizedFits) :
    (s.accept i).Inv where
  busy_not_done _ := rfl
  err_idle h := absurd he h
  idle_phase h := Bool.noConfusion h
  busy_command _ := ⟨i, rfl, firstPhase_mem_phasesOf hc, hp⟩
  derive_iter _ h := absurd (opcode_injective h) hd
  zeroed := hz
  derive_not_zeroed _ h := absurd (opcode_injective h) hd

/-- `DERIVE` is accepted with `ITER = 0`, which keeps the invariant (10_state R34). -/
theorem State.inv_accept_derive {s : State} (he : s.err = .noError) (hp : precheck .derive s = none)
    (hz : s.ZeroizedFits) :
    ((s.accept .derive).withIter 0#32).Inv where
  busy_not_done _ := rfl
  err_idle h := absurd he h
  idle_phase h := Bool.noConfusion h
  busy_command _ := ⟨.derive, rfl, firstPhase_mem_phasesOf (by decide), hp⟩
  derive_iter _ _ := rfl
  zeroed := hz
  derive_not_zeroed _ _ h := absurd rfl h

/-- A running `DERIVE` that goes to one of its phases keeps the invariant if `ITER` stands where it does in that phase and
the cipher state is no longer the zeroized one. -/
theorem State.inv_goTo_derive {s : State} {p : Phase} (hb : s.busy = true) (hd : s.done = false) (he : s.err = .noError)
    (ho : s.opc = opcode .derive) (hp : p ∈ phasesOf .derive) (hc : precheck .derive s = none)
    (hi : (s.goTo p).iterFits) (hz : s.cipherZeroed = false) : (s.goTo p).Inv where
  busy_not_done _ := hd
  err_idle h := absurd he h
  idle_phase h := by simp [hb] at h
  busy_command _ := ⟨.derive, ho, hp, hc⟩
  derive_iter _ _ := hi
  zeroed h := by simp [hz] at h
  derive_not_zeroed _ _ _ := hz

/-- `ITER` at the end of a pass: one pass more, back to `P_XKEY` while passes are left, else on to `P_MAGIC` with all of them
counted (10_state R34). -/
theorem State.iterFits_endOfPass {s : State} (hi : s.iter.toNat < rounds s.cost) (hc : s.cost.toNat ≤ 31) :
    (s.countPass.goTo (if (s.iter + 1#32).toNat < rounds s.cost then .pXkey else .pMagic)).iterFits := by
  have hr := rounds_le hc
  have hn : (s.iter + 1#32).toNat = s.iter.toNat + 1 := by simp [BitVec.toNat_add]; omega
  split
  · assumption
  · show (s.iter + 1#32).toNat = rounds s.cost
    omega

/-- An engine turn of a running `DERIVE` keeps the invariant (41_key_schedule R125). -/
theorem State.inv_engineStep_derive {s : State} (h : s.Inv) (hb : s.busy = true) (ho : s.opc = opcode .derive)
    (hp : s.phase ∈ phasesOf .derive) (hc : precheck .derive s = none) : s.engineStep.Inv := by
  have hd := h.busy_not_done hb
  have he := h.err_of_busy hb
  have hi := h.derive_iter hb ho
  have hz := h.derive_not_zeroed hb ho
  unfold State.iterFits at hi
  rcases State.engineStep_derive hb (decide_eq_true ho) hp with
    ⟨e, eq⟩ | ⟨e, eq⟩ | ⟨e, eq⟩ | ⟨e, eq⟩ | ⟨e, eq⟩ <;>
  rw [eq] <;> simp only [e] at hi hz
  · exact State.inv_goTo_derive hb hd he ho (by decide) hc hi rfl
  · refine State.inv_goTo_derive hb hd he ho (by decide) hc ?_ (hz (by decide))
    show s.iter.toNat < rounds s.cost
    simpa [hi] using rounds_pos s.cost
  · exact State.inv_goTo_derive hb hd he ho (by decide) hc hi (hz (by decide))
  · exact State.inv_goTo_derive hb hd he ho (by split <;> decide) hc
      (State.iterFits_endOfPass (s := s.xsaltWork) hi (cost_of_precheck hc).2) (hz (by decide))
  · exact State.inv_of_idle rfl (fun h => absurd he h) rfl
      (fun h => absurd (h.symm.trans (hz (by decide))) (by decide))

/-- An engine turn keeps the invariant. -/
theorem State.Inv.engineStep {s : State} (h : s.Inv) : s.engineStep.Inv := by
  by_cases hb : s.busy = true
  · obtain ⟨i, ho, hp, hc⟩ := h.busy_command hb
    by_cases hd : i = .derive
    · subst hd
      exact State.inv_engineStep_derive h hb ho hp hc
    · rw [State.engineStep_eq_finish_workOf hb ho hp hd]
      exact State.inv_finish_workOf (h.err_of_busy hb) hc h.zeroed
  · rwa [State.engineStep_idle (by simpa using hb)]

/-- A command write of a machine that performs commands whole keeps the invariant. -/
theorem State.Inv.exec {s t : State} {i : Instr} (h : s.Inv) (ht : exec i s = .next t) : t.Inv := by
  rcases exec_cases s i with
    ⟨_, e⟩ | ⟨hb, _, e⟩ | ⟨_, rfl, e⟩ | ⟨_, _, e⟩ | ⟨r, hr, _, e⟩ | ⟨hr, hp, e⟩ <;>
  cases e.symm.trans ht
  · exact h
  · exact h.clearError hb
  · exact State.inv_finish_workOf rfl (precheck_zeroize _) h.zeroed
  · exact h
  · exact h.raise hr.idle _ r
  · exact State.inv_finish_workOf hr.no_error hp h.zeroed

/-- A command write of a stepwise machine keeps the invariant. -/
theorem State.Inv.start {s : State} (h : s.Inv) (i : Instr) : (s.start i).Inv := by
  rcases s.start_cases i with
    ⟨_, e⟩ | ⟨hb, _, e⟩ | ⟨_, _, e⟩ | ⟨_, _, _, _, e⟩ | ⟨r, hr, _, _, _, e⟩ | ⟨hr, hc, _, hp, e⟩ <;>
  rw [e]
  · exact h
  · exact h.clearError hb
  · exact State.inv_accept (s := { s.newDraw with err := .noError, errinfo := 0#32 }) (i := .zeroize) rfl (by decide)
      (by decide) (precheck_zeroize _) h.zeroed
  · exact h
  · exact h.raise hr.idle _ r
  · split
    · next hd =>
      subst hd
      exact State.inv_accept_derive hr.no_error hp h.zeroed
    · next hd => exact State.inv_accept hr.no_error hc hd hp h.zeroed

/-- A write to `CMD` keeps the invariant (30_encoding R82). -/
theorem State.Inv.commandWrite {s t : State} {w : Word} (h : s.Inv) (ht : s.commandWrite w = .next t) : t.Inv := by
  rcases State.commandWrite_cases ht with ⟨i, _, _, rfl⟩ | ⟨i, _, _, e⟩ | ⟨err, _, rfl⟩
  · exact h.start i
  · exact h.exec e
  · rcases s.illegalCommand_cases w err with ⟨_, e⟩ | ⟨hr, r, _, e⟩
    · rwa [e]
    · rw [e]; exact h.raise hr.idle _ r

/-- A host read keeps the invariant: it changes only fields that the invariant does not look at (20_memory R66). -/
theorem State.Inv.hostRead {s : State} (h : s.Inv) (r : Reg) : (s.hostRead r).Inv where
  busy_not_done := h.busy_not_done
  err_idle := h.err_idle
  idle_phase := h.idle_phase
  busy_command := h.busy_command
  derive_iter := h.derive_iter
  zeroed := h.zeroed
  derive_not_zeroed := h.derive_not_zeroed

/-- A register write keeps the invariant: it is ignored while the block is busy, and on an idle block it writes only operands
(20_memory R68). -/
theorem State.Inv.hostWrite {s : State} (h : s.Inv) (r : Reg) (v : Word) : (s.hostWrite r v).Inv := by
  by_cases hb : s.busy = true
  · rwa [s.hostWrite_busy hb]
  · have hb : s.busy = false := by simpa using hb
    obtain ⟨hcipher, hzeroed, hsv, hbusy, hdone, herr, _, hphase, _⟩ := s.hostWrite_frame r v
    refine State.inv_of_idle (hbusy.trans hb) ?_ (hphase.trans (h.idle_phase hb)) ?_
    · rw [herr, hdone]; exact fun he => (h.err_idle he).2
    · rw [hzeroed, hsv, hcipher]; exact h.zeroed

/-- A transaction of the host keeps the invariant. -/
theorem State.Inv.hostAccess {s t : State} {a : Access} (h : s.Inv) (ht : s.hostAccess a = .next t) : t.Inv := by
  rcases State.hostAccess_cases ht with ⟨off, _, _, _, rfl⟩ | ⟨v, _, e⟩ | ⟨off, v, _, _, _, _, rfl⟩
  · exact h.hostRead _
  · exact h.commandWrite e
  · exact h.hostWrite _ v

/-- Settles O57, event by event: an engine turn, a reset, or a transaction of the host. -/
theorem stepKeepsTheInvariant : Obligations.StepKeepsTheInvariant := by
  intro s t h ht
  rcases step_cases ht with ⟨_, rfl⟩ | ⟨rest, _, rfl⟩ | ⟨rest, _, rfl⟩ | ⟨a, rest, _, e⟩
  · exact h.engineStep
  · exact (State.inv_pending h rest).engineStep
  · exact State.inv_resetBlock _
  · exact (State.inv_pending h rest).hostAccess e

/-! ## Transactions that are not command writes -/

/-- A step whose event is a transaction of the host is that transaction (log 2). -/
theorem hostAccess_of_step {s t : State} {a : Access} {rest : List Event} (hp : s.pending = .access a :: rest)
    (h : step s = .next t) : State.hostAccess { s with pending := rest } a = .next t := by
  rw [step, hp] at h
  exact h

/-- Settles O60: a read writes only the word returned and the read counter, a register write only operands. -/
theorem onlyCommandsReachTheEngine : Obligations.OnlyCommandsReachTheEngine := by
  intro s t a rest hp ht ha
  rcases State.hostAccess_cases (hostAccess_of_step hp ht) with ⟨off, _, _, _, rfl⟩ | ⟨v, rfl, _⟩ | ⟨off, v, _, _, _, _, rfl⟩
  · exact ⟨rfl, rfl, rfl, rfl, rfl, rfl⟩
  · exact absurd rfl (ha v)
  · obtain ⟨hcipher, _, hsv, hbusy, hdone, herr, herrinfo, hphase, hopc, hdigest, hiter, _⟩ :=
      State.hostWrite_frame { s with pending := rest } (regOf off) v
    exact ⟨hcipher, hdigest, by simp only [State.statusWord, herr, hsv, hdone, hbusy], herrinfo,
      by simp only [State.seqWord, hopc, hphase], hiter⟩

/-! ## `SV` -/

/-- In a state that meets the invariant only the phase of `INIT` makes `SV` 1 in an engine turn (10_state R22). -/
theorem State.Inv.init_of_engineStep_sv {s : State} (h : s.Inv) (hs : s.sv = false) (ht : s.engineStep.sv = true) :
    s.busy = true ∧ s.phase = .pInit ∧ s.opc = opcode .init := by
  by_cases hb : s.busy = true
  · obtain ⟨i, ho, hp, _⟩ := h.busy_command hb
    by_cases hi : i = .init
    · subst hi
      exact ⟨hb, List.mem_singleton.mp hp, ho⟩
    · have hsv : s.engineStep.sv = false := by
        by_cases hd : i = .derive
        · subst hd
          exact State.engineStep_derive_sv hb ho hp hs
        · rw [State.engineStep_eq_finish_workOf hb ho hp hd]
          exact State.workOf_sv hs hi
      exact absurd (hsv.symm.trans ht) Bool.false_ne_true
  · rw [State.engineStep_idle (by simpa using hb)] at ht
    exact absurd (hs.symm.trans ht) Bool.false_ne_true

/-- Accepting a command, or not, never changes `SV` (30_encoding R82). -/
theorem State.start_sv (s : State) (i : Instr) : (s.start i).sv = s.sv := by
  rcases s.start_cases i with
    ⟨_, e⟩ | ⟨_, _, e⟩ | ⟨_, _, e⟩ | ⟨_, _, _, _, e⟩ | ⟨_, _, _, _, _, e⟩ | ⟨_, _, _, _, e⟩ <;> rw [e]
  exacts [rfl, rfl, rfl, by split <;> rfl]

/-- Of the commands performed whole, only `INIT` makes `SV` 1 (10_state R22). -/
theorem init_of_exec_sv {s t : State} {i : Instr} (h : exec i s = .next t) (hs : s.sv = false) (ht : t.sv = true) :
    i = .init := by
  by_contra hi
  have hsv : t.sv = false := by
    rcases exec_cases s i with
      ⟨_, e⟩ | ⟨_, _, e⟩ | ⟨_, _, e⟩ | ⟨_, _, e⟩ | ⟨_, _, _, e⟩ | ⟨_, _, e⟩ <;> cases e.symm.trans h
    · exact hs
    · exact hs
    · exact (State.finish_sv _).trans (State.workOf_sv (by exact hs) hi)
    · exact hs
    · exact hs
    · exact (State.finish_sv _).trans (State.workOf_sv (by exact hs) hi)
  exact absurd (hsv.symm.trans ht) Bool.false_ne_true

/-- Of the words written to `CMD`, only that of `INIT` makes `SV` 1 (10_state R22). -/
theorem State.init_of_commandWrite_sv {s t : State} {w : Word} (h : s.commandWrite w = .next t) (hs : s.sv = false)
    (ht : t.sv = true) : w = encode .init := by
  rcases State.commandWrite_cases h with ⟨i, _, _, rfl⟩ | ⟨i, hd, _, e⟩ | ⟨err, _, rfl⟩
  · exact absurd ((s.start_sv i).symm.trans ht) (by simp [hs])
  · rw [eq_encode_of_decode hd, init_of_exec_sv e hs ht]
  · rcases s.illegalCommand_cases w err with ⟨_, e⟩ | ⟨_, r, _, e⟩ <;> simp [e, hs] at ht

/-- Settles O59, event by event: resets, reads and register writes leave `SV` at 0. -/
theorem onlyInitSetsSv : Obligations.OnlyInitSetsSv := by
  intro s t h hstep hs ht
  rcases step_cases hstep with ⟨hp, rfl⟩ | ⟨rest, hp, rfl⟩ | ⟨rest, hp, rfl⟩ | ⟨a, rest, hp, e⟩
  · exact .inr ⟨.inl hp, h.init_of_engineStep_sv hs ht⟩
  · exact .inr ⟨.inr ⟨rest, hp⟩, (State.inv_pending h rest).init_of_engineStep_sv hs ht⟩
  · exact Bool.noConfusion ht
  · rcases State.hostAccess_cases e with ⟨off, _, _, _, rfl⟩ | ⟨v, rfl, e⟩ | ⟨off, v, _, _, _, _, rfl⟩
    · exact absurd (hs.symm.trans ht) Bool.false_ne_true
    · obtain rfl := State.init_of_commandWrite_sv e hs ht
      exact .inl ⟨rest, hp⟩
    · obtain ⟨_, _, hsv, _⟩ := State.hostWrite_frame { s with pending := rest } (regOf off) v
      exact absurd (hs.symm.trans (hsv.symm.trans ht)) Bool.false_ne_true

/-! ## Key bytes beyond `KEYLEN` -/

/-- The key that a command sees depends on the bytes below `KEYLEN` only (10_state R23). -/
theorem State.keyBytes_congr {s : State} {k : Buffer 72}
    (h : ∀ j, j < s.keylen.toNat → k.bytes[j]? = s.key.bytes[j]? ∧ k.written[j]? = s.key.written[j]?) :
    State.keyBytes { s with key := k } = s.keyBytes := by
  apply List.map_congr_left
  intro j hj
  obtain ⟨hb, hw⟩ := h j (List.mem_range.mp hj)
  simp only [Buffer.read, hb, hw]

/-- No check looks at the key bytes themselves (60_exceptions R211). -/
theorem precheck_withKey (i : Instr) (s : State) (k : Buffer 72) : precheck i { s with key := k } = precheck i s := rfl

/-- The work of a command that reads the key sees the key buffer through its first `KEYLEN` bytes, and leaves it alone. -/
theorem State.workOf_withKey {i : Instr} (hi : i ∈ [Instr.xkey, .xeks, .derive]) {s : State} {k : Buffer 72}
    (h : State.keyBytes { s with key := k } = s.keyBytes) :
    State.workOf { s with key := k } i = { s.workOf i with key := k } := by
  simp only [List.mem_cons, List.not_mem_nil, or_false] at hi
  rcases hi with rfl | rfl | rfl
  · simp only [State.workOf, State.xkeyWork_eq, h]; rfl
  · simp only [State.workOf, State.xeksWork_eq, h]; rfl
  · simp only [State.workOf, State.deriveWork_eq, h]; rfl

/-- Settles O33: the checks do not look at the key bytes, and the work only at those below `KEYLEN`. -/
theorem bytesBeyondKeylenIgnored : Obligations.BytesBeyondKeylenIgnored := by
  intro i s k hi h
  have hc : i ≠ .clrerr := by rintro rfl; simp at hi
  have hz : i ≠ .zeroize := by rintro rfl; simp at hi
  have hw := State.workOf_withKey hi (State.keyBytes_congr (s := s.newDraw.accept i) h)
  refine ⟨_, exec_eq_offer hc hz s, ?_⟩
  rw [exec_eq_offer hc hz]
  congr 1
  have hk := precheck_withKey i s.newDraw k
  rcases s.offer_cases i fun s => (s.workOf i).finish with
    ⟨hb, e⟩ | ⟨_, he, e⟩ | ⟨r, hr, hp, e⟩ | ⟨hr, hp, e⟩ <;> rw [e]
  · exact State.offer_busy i _ hb
  · exact State.offer_latched i _ he
  · exact State.offer_raises (s := { s with key := k }) _ ⟨hr.idle, hr.no_error⟩ (hk.trans hp)
  · refine (State.offer_accepts (s := { s with key := k }) _ ⟨hr.idle, hr.no_error⟩ (hk.trans hp)).trans ?_
    exact congrArg State.finish hw

/-! ## `STATUS` and `SEQ` bit by bit -/

/-- The reserved bits of `STATUS` (10_state R31). -/
theorem State.statusWord_reserved (s : State) : s.statusWord &&& 0xFFFFFF08#32 = 0#32 := by
  apply BitVec.eq_of_getLsbD_eq
  intro i hi
  interval_cases i <;> simp [State.statusWord]

/-- `STATUS` from bit 4 up is `ERR` (10_state R31). -/
theorem State.statusWord_err (s : State) : s.statusWord >>> 4 = s.err.code.setWidth 32 := by
  apply BitVec.eq_of_getLsbD_eq
  intro i hi
  interval_cases i <;> simp [State.statusWord]

/-- `STATUS` bit 0 is `BUSY` (10_state R31). -/
theorem State.statusWord_busy (s : State) : s.statusWord &&& 0x1#32 = (BitVec.ofBool s.busy).setWidth 32 := by
  apply BitVec.eq_of_getLsbD_eq
  intro i hi
  interval_cases i <;> simp [State.statusWord]

/-- `STATUS` bits 1:0 are `DONE` and `BUSY` (10_state R31). -/
theorem State.statusWord_done_busy (s : State) :
    s.statusWord &&& 0x3#32 =
      ((BitVec.ofBool s.done).setWidth 32 <<< 1) ||| (BitVec.ofBool s.busy).setWidth 32 := by
  apply BitVec.eq_of_getLsbD_eq
  intro i hi
  interval_cases i <;> simp [State.statusWord]

/-- The reserved bits of `SEQ` (10_state R33). -/
theorem State.seqWord_reserved (s : State) : s.seqWord &&& 0xFFFF00F0#32 = 0#32 := by
  apply BitVec.eq_of_getLsbD_eq
  intro i hi
  interval_cases i <;> simp [State.seqWord]

/-- `SEQ` bits 3:0 are `PHASE` (10_state R33). -/
theorem State.seqWord_phase (s : State) : s.seqWord &&& 0xF#32 = s.phase.code.setWidth 32 := by
  apply BitVec.eq_of_getLsbD_eq
  intro i hi
  interval_cases i <;> simp [State.seqWord]

/-- No error code is above 7 (60_exceptions R200). -/
theorem ErrCode.code_lt (e : ErrCode) : e.code.toNat < 8 := by cases e <;> decide

/-- No phase code is above 9 (10_state R33). -/
theorem Phase.code_lt (p : Phase) : p.code.toNat < 10 := by cases p <;> decide

/-- Code 0 is `IDLE` (10_state R33). -/
theorem Phase.setWidth_code_eq_zero {p : Phase} : p.code.setWidth 32 = 0#32 ↔ p = .idle := by cases p <;> decide

/-- A flag shown as a word is 0 exactly when it is clear. -/
theorem setWidth_ofBool_eq_zero {b : Bool} : (BitVec.ofBool b).setWidth 32 = 0#32 ↔ b = false := by cases b <;> decide

/-- `IDLE` is a phase of no command (41_key_schedule R125). -/
theorem idle_not_mem_phasesOf (i : Instr) : Phase.idle ∉ phasesOf i := by cases i <;> decide

/-- In a state that meets the invariant `PHASE` is `IDLE` exactly while `BUSY = 0` (10_state R33). -/
theorem State.Inv.phase_eq_idle_iff {s : State} (h : s.Inv) : s.phase = .idle ↔ s.busy = false := by
  refine ⟨fun hp => ?_, h.idle_phase⟩
  by_contra hb
  obtain ⟨i, _, hm, _⟩ := h.busy_command (by simpa using hb)
  exact idle_not_mem_phasesOf i (hp ▸ hm)

/-- `STATUS` shows bits in 7:4 only for a latched error (10_state R31). -/
theorem State.err_ne_of_statusWord {s : State} (h : s.statusWord &&& 0xF0#32 ≠ 0#32) : s.err ≠ .noError := by
  intro he
  apply h
  have hs : s.statusWord >>> 4 = 0#32 := by rw [s.statusWord_err, he]; rfl
  have e : s.statusWord &&& 0xF0#32 = (s.statusWord >>> 4 &&& 0xF#32) <<< 4 := by
    apply BitVec.eq_of_getLsbD_eq
    intro i hi
    interval_cases i <;> simp
  simp [e, hs]

/-- The flags that a state which meets the invariant shows in `STATUS` bits 1:0: not both, and neither beside an error
(10_state R31). -/
theorem State.Inv.statusWord_flags {s : State} (h : s.Inv) :
    s.statusWord &&& 0x3#32 ≠ 0x3#32 ∧ (s.err ≠ .noError → s.statusWord &&& 0x3#32 = 0#32) := by
  rw [s.statusWord_done_busy]
  constructor
  · cases hb : s.busy with
    | false => cases s.done <;> decide
    | true => rw [h.busy_not_done hb]; decide
  · intro he
    obtain ⟨hb, hd⟩ := h.err_idle he
    rw [hb, hd]; rfl

/-- Settles O58, field by field. -/
theorem statusAndSeqWords : Obligations.StatusAndSeqWords := by
  intro s
  refine ⟨s.statusWord_reserved, ?_, s.seqWord_reserved, ?_, fun h => ⟨h.statusWord_flags.1, ?_, ?_⟩⟩
  · rw [s.statusWord_err, BitVec.toNat_setWidth_of_le (by decide)]
    exact s.err.code_lt
  · rw [s.seqWord_phase, BitVec.toNat_setWidth_of_le (by decide)]
    exact s.phase.code_lt
  · exact fun he => h.statusWord_flags.2 (State.err_ne_of_statusWord he)
  · rw [s.statusWord_busy, s.seqWord_phase, setWidth_ofBool_eq_zero, Phase.setWidth_code_eq_zero, h.phase_eq_idle_iff]

/-! ## What the host reads of the digest, and after reset -/

/-- Byte `n` of a digest word is the digest byte that stands there, 0 past the last (10_state R28). -/
theorem State.wordByte_digestWord (s : State) (w : Nat) (n : Fin 4) :
    wordByte (s.digestWord w) n = s.digest[4 * w + n.val]?.getD 0#8 := by
  fin_cases n <;> simp [State.digestWord]

/-- Settles O51: the byte of the word read is the byte of the digest. -/
theorem digestReadsAsSixWords : Obligations.DigestReadsAsSixWords := by
  intro s w n hb
  rw [s.readReg_idle hb]
  refine (s.wordByte_digestWord w n).trans ?_
  split
  · next h => simp [h]
  · next h => simp [h]

/-- A word of a buffer that nothing has written is the free word (20_memory R69). -/
theorem Buffer.word_unwritten (n : Nat) (free : Word) (w : Nat) : (Buffer.unwritten n).word free w = free := by
  simp [Buffer.word, Buffer.read_unwritten]

/-- Every digest word of the block after reset is 0 (10_state R40). -/
theorem State.digestWord_resetBlock (s : State) (w : Nat) : s.resetBlock.digestWord w = 0#32 := by
  have hz (i : Nat) : (Vector.replicate 23 0#8)[i]?.getD 0#8 = 0#8 := by
    rw [Vector.getElem?_replicate]; split <;> rfl
  simp only [State.digestWord, State.resetBlock_digest, State.reset, hz]
  decide

/-- `STATUS` of the block after reset is 0 (10_state R40). -/
theorem State.statusWord_resetBlock (s : State) : s.resetBlock.statusWord = 0#32 := by
  show State.reset.statusWord = 0#32
  decide

/-- `SEQ` of the block after reset is 0 (10_state R40). -/
theorem State.seqWord_resetBlock (s : State) : s.resetBlock.seqWord = 0#32 := by
  show State.reset.seqWord = 0#32
  decide

/-- Settles O52, register by register: each field after reset is 0, and nothing has been written to the buffers. -/
theorem resetValues : Obligations.ResetValues := by
  intro s rest hp
  refine ⟨State.resetBlock { s with pending := rest }, by simp [step, hp, State.perform], rfl, rfl, fun r => ?_⟩
  rw [State.readReg_idle _ rfl]
  cases r with
  | saltw w => exact Buffer.word_unwritten 16 _ w
  | keyw w => exact Buffer.word_unwritten 72 _ w
  | raww w => exact Buffer.word_unwritten 48 _ w
  | symw w => exact Buffer.word_unwritten 64 _ w
  | digestw w => exact State.digestWord_resetBlock _ w
  | status => exact State.statusWord_resetBlock _
  | seq => exact State.seqWord_resetBlock _
  | _ => rfl

end Sys2Proof.Machine

/-! The radix-64 alphabet and its inverse table (15_constants R54, R55). -/

namespace Sys2Proof.Machine

/-- The four ranges of the alphabet as numbers (15_constants R54): no sum in `alphabet` leaves the byte. -/
theorem alphabet_toNat (v : Sextet) :
    (alphabet v).toNat =
      if v.toNat < 2 then 0x2E + v.toNat else if v.toNat < 28 then 0x41 + (v.toNat - 2)
      else if v.toNat < 54 then 0x61 + (v.toNat - 28) else 0x30 + (v.toNat - 54) := by
  have hc : (v.setWidth 8).toNat = v.toNat := BitVec.toNat_setWidth_of_le (by decide)
  simp only [alphabet, BitVec.lt_def, hc, BitVec.toNat_ofNat]
  split_ifs <;> bv_omega

/-- `INV` inverts the alphabet (15_constants R55): each range of codes in `inv` lies in one range of `alphabet_toNat`,
and a code in none of them is no symbol. -/
theorem inv_eq_some_iff (c : Byte) (v : Sextet) : inv c = some v ↔ alphabet v = c := by
  have symbol := alphabet_toNat v
  rw [inv]
  split_ifs
  case neg =>
    rw [false_iff]
    split_ifs at symbol <;> bv_omega
  all_goals
    rw [Option.some_inj]
    split_ifs at symbol <;> bv_omega

/-- Settles O37: the ranges of the alphabet, and `INV` as its inverse. -/
theorem alphabetAndInverse : Obligations.AlphabetAndInverse := ⟨alphabet_toNat, inv_eq_some_iff⟩

end Sys2Proof.Machine

/-! The register window (20_memory): the map of offsets, what a transaction of the host does to the block, what a register
reads after a write, and the cells that nothing has written. -/

namespace Sys2Proof.Machine

/-! ## The register map -/

/-- The offset of word `w` of a range of `n` words leads back to `w` (20_memory R61). -/
theorem ofNat_word_of_offset {n : Nat} [NeZero n] (base : Nat) (w : Fin n) :
    Fin.ofNat n ((base + 4 * w - base) / 4) = w := by
  simp

/-- The offset of word `i` of table `b` leads back to both indices (20_memory R61). -/
theorem regOf_s (b : Fin 4) (i : Fin 256) : regOf (0x1000 + 0x400 * b + 4 * i) = .s b i := by
  have hb : (0x1000 + 0x400 * b.val + 4 * i.val - 0x1000) / 0x400 % 4 = b := by omega
  have hi : (0x1000 + 0x400 * b.val + 4 * i.val - 0x1000) % 0x400 / 4 % 256 = i := by omega
  simp (disch := omega) only [regOf, ↓if_neg, ↓if_pos, Reg.s.injEq, Fin.ext_iff, Fin.val_ofNat, hb, hi, and_self]

/-- Every register stands at its offset (20_memory R61). -/
theorem regOf_of_offset {r : Reg} {off : Nat} (h : r.offset = some off) : regOf off = r := by
  cases r with
  | reserved => cases h
  | s b i => cases h; exact regOf_s b i
  | saltw w | digestw w | keyw w | p w | raww w | symw w =>
    cases h
    have hw := w.isLt
    simp (disch := omega) only [regOf, ↓if_neg, ↓if_pos]
    rw [ofNat_word_of_offset]
  | _ => cases h; rfl

/-- Every offset of the map is aligned and inside the window (20_memory R60, R61). -/
theorem Reg.offset_in_window {r : Reg} {off : Nat} (h : r.offset = some off) : off < 0x2000 ∧ off % 4 = 0 := by
  cases r with
  | reserved => cases h
  | _ => cases h; omega

/-- `r` is the register at the offset `off`, or no register is (20_memory R61, R65). -/
def Reg.StandsAt (off : Nat) (r : Reg) : Prop := r.offset = some off ∨ r = .reserved

/-- An aligned offset inside a range of `n` word registers is that of the word it leads to (20_memory R61). -/
theorem Reg.standsAt_word {n : Nat} [NeZero n] {base off : Nat} (reg : Fin n → Reg)
    (hreg : ∀ w, (reg w).offset = some (base + 4 * w.val)) (hb : base % 4 = 0) (h4 : off % 4 = 0)
    (hlo : ¬ off < base) (hhi : off < base + 4 * n) : (reg (Fin.ofNat n ((off - base) / 4))).StandsAt off := by
  have hw : base + 4 * (Fin.ofNat n ((off - base) / 4)).val = off := by
    rw [Fin.val_ofNat, Nat.mod_eq_of_lt (by omega)]
    omega
  exact .inl ((hreg _).trans (congrArg some hw))

/-- An aligned offset of the tables is that of the word it leads to (20_memory R61). -/
theorem Reg.standsAt_s {off : Nat} (h4 : off % 4 = 0) (hlo : ¬ off < 0x1000) (hhi : off < 0x2000) :
    (Reg.s (Fin.ofNat 4 ((off - 0x1000) / 0x400)) (Fin.ofNat 256 ((off - 0x1000) % 0x400 / 4))).StandsAt off := by
  have hw : 0x1000 + 0x400 * (Fin.ofNat 4 ((off - 0x1000) / 0x400)).val +
      4 * (Fin.ofNat 256 ((off - 0x1000) % 0x400 / 4)).val = off := by
    simp only [Fin.val_ofNat]
    omega
  exact .inl (congrArg some hw)

/-- Every aligned offset is that of the register found there, or reserved: range by range, as `regOf` has them (20_memory
R61, R65). -/
theorem Reg.standsAt_regOf {off : Nat} (h4 : off % 4 = 0) : (regOf off).StandsAt off := by
  by_cases hlow : off < 0x30
  · obtain ⟨k, rfl⟩ := Nat.dvd_of_mod_eq_zero h4
    have hk : k < 12 := by omega
    interval_cases k <;> exact .inl rfl
  · rw [regOf, if_neg hlow]
    exact iteInduction (standsAt_word .saltw (fun _ => rfl) rfl h4 hlow) fun h =>
      iteInduction (standsAt_word .digestw (fun _ => rfl) rfl h4 h) fun _ =>
      iteInduction (fun _ => .inr rfl) fun h =>
      iteInduction (standsAt_word .keyw (fun _ => rfl) rfl h4 h) fun _ =>
      iteInduction (fun _ => .inr rfl) fun h =>
      iteInduction (standsAt_word .p (fun _ => rfl) rfl h4 h) fun _ =>
      iteInduction (fun _ => .inr rfl) fun h =>
      iteInduction (standsAt_word .raww (fun _ => rfl) rfl h4 h) fun _ =>
      iteInduction (fun _ => .inr rfl) fun h =>
      iteInduction (standsAt_word .symw (fun _ => rfl) rfl h4 h) fun _ =>
      iteInduction (fun _ => .inr rfl) fun h =>
      iteInduction (standsAt_s h4 h) fun _ => .inr rfl

/-- The offsets between the groups of registers are reserved (20_memory R61, R65). -/
theorem regOf_reserved {off : Nat}
    (h : (0x0058 ≤ off ∧ off ≤ 0x007C) ∨ (0x00C8 ≤ off ∧ off ≤ 0x00FC) ∨ (0x0148 ≤ off ∧ off ≤ 0x01FC) ∨
      (0x0230 ≤ off ∧ off ≤ 0x023C) ∨ (0x0280 ≤ off ∧ off ≤ 0x0FFC)) : regOf off = .reserved := by
  rcases h with h | h | h | h | h <;> simp (disch := omega) only [regOf, ↓if_neg, ↓if_pos]

/-- Settles O43: the offsets as numbers are those of `Reg.offset`, which `regOf` inverts. -/
theorem registerMapIsOneToOne : Obligations.RegisterMapIsOneToOne :=
  ⟨⟨rfl, rfl, rfl, rfl, rfl, rfl, rfl, rfl, rfl, rfl, rfl, rfl,
    fun _ => regOf_of_offset rfl, fun _ => regOf_of_offset rfl, fun _ => regOf_of_offset rfl,
    fun _ => regOf_of_offset rfl, fun _ => regOf_of_offset rfl, fun _ => regOf_of_offset rfl, regOf_s⟩,
    fun _ => regOf_reserved,
    fun _ _ h => and_assoc.mp ⟨Reg.offset_in_window h, regOf_of_offset h⟩,
    fun _ _ => Reg.standsAt_regOf⟩

/-! ## Transactions of the host -/

section transactions

variable (s : State) {rest : List Event} {a : Access} {off : Nat} (v : Word)

/-- A step whose first event is a transaction of the host performs it (log 2). -/
theorem step_of_pending_access (h : s.pending = .access a :: rest) :
    step s = State.hostAccess { s with pending := rest } a := by
  rw [step, h]; rfl

/-- A transaction outside the window is not BCE's (20_memory R65). -/
theorem State.hostAccess_outside (h : 0x2000 ≤ a.off) : s.hostAccess a = .fault (.outsideWindow a.off) := by
  simp [State.hostAccess, Access.inWindow, h]

/-- A transaction of the window that is not one aligned word is undefined (20_memory R64). -/
theorem State.hostAccess_undefined (hlt : a.off < 0x2000) (h : a.width ≠ .word ∨ a.off % 4 ≠ 0) :
    s.hostAccess a = .refused (.undefinedTransaction a.width a.off) := by
  have ha : a.isAlignedWord = false := by simpa [Access.isAlignedWord, imp_iff_not_or] using h
  simp [State.hostAccess, Access.inWindow, hlt, ha]

/-- An aligned word read of the window reads the register there (20_memory R61). -/
theorem State.hostAccess_read (hlt : off < 0x2000) (h4 : off % 4 = 0) :
    s.hostAccess (.read .word off) = .next (s.hostRead (regOf off)) := by
  simp [State.hostAccess, Access.inWindow, Access.isAlignedWord, Access.width, Access.off, hlt, h4]

/-- A word write at offset 0 writes `CMD` (20_memory R61). -/
theorem State.hostAccess_write_cmd : s.hostAccess (.write .word 0x0000 v) = s.commandWrite v := rfl

/-- An aligned word write elsewhere in the window writes the register there (20_memory R61). -/
theorem State.hostAccess_write (hlt : off < 0x2000) (h4 : off % 4 = 0) (h0 : off ≠ 0) :
    s.hostAccess (.write .word off v) = .next (s.hostWrite (regOf off) v) := by
  simp [State.hostAccess, Access.inWindow, Access.isAlignedWord, Access.width, Access.off, hlt, h4, h0]

/-- A write to `CMD` always answers a next state, whatever the word (30_encoding R82). -/
theorem State.commandWrite_next : ∃ t, s.commandWrite v = .next t := by
  unfold State.commandWrite
  split
  · split
    · exact ⟨_, rfl⟩
    · exact exec_next _ s
  · exact ⟨_, rfl⟩

/-- An aligned word transaction of the window always answers a next state (20_memory R60). -/
theorem State.hostAccess_next (hlt : a.off < 0x2000) (hw : a.width = .word) (h4 : a.off % 4 = 0) :
    ∃ t, s.hostAccess a = .next t := by
  cases a with
  | read width off =>
    cases hw
    exact ⟨_, s.hostAccess_read hlt h4⟩
  | write width off v =>
    cases hw
    by_cases h0 : off = 0
    · subst h0
      exact s.commandWrite_next v
    · exact ⟨_, s.hostAccess_write v hlt h4 h0⟩

/-- While the block is busy a write anywhere in the window, `CMD` included, changes nothing (20_memory R68). -/
theorem State.hostAccess_write_busy (hb : s.busy = true) (hlt : off < 0x2000) (h4 : off % 4 = 0) :
    s.hostAccess (.write .word off v) = .next s := by
  by_cases h0 : off = 0
  · subst h0
    exact s.commandWrite_busy hb v
  · rw [s.hostAccess_write v hlt h4 h0, s.hostWrite_busy hb]

end transactions

/-- Settles O4: the step is the write to `CMD`, and the word decodes to `i`. -/
theorem stepRunsTheWrittenCommand : Obligations.StepRunsTheWrittenCommand := by
  intro s rest w i hp hd
  rw [step_of_pending_access s hp, State.hostAccess_write_cmd, State.commandWrite, hd]
  exact ⟨fun h => by simp [h], fun h => by simp [h]⟩

/-- Settles O5: the step is the transaction, which lies outside the window, or is undefined, or is an aligned word. -/
theorem onlyAlignedWordsInTheWindow : Obligations.OnlyAlignedWordsInTheWindow := by
  intro s rest a hp
  rw [step_of_pending_access s hp]
  split_ifs with hout hun
  · exact State.hostAccess_outside _ hout
  · exact State.hostAccess_undefined _ (not_le.mp hout) hun
  · obtain ⟨hw, h4⟩ := not_or.mp hun
    exact State.hostAccess_next _ (not_le.mp hout) (not_not.mp hw) (not_not.mp h4)

/-- Settles O44: the step is `State.hostRead` on the state with the event taken off. -/
theorem readsHaveNoSideEffect : Obligations.ReadsHaveNoSideEffect := by
  intro s rest off hp hlt h4
  rw [step_of_pending_access s hp, State.hostAccess_read _ hlt h4]
  rfl

/-! ## What a register reads after a write -/

/-- After a write to an idle block a read sees what the register written then holds (20_memory R66). -/
theorem State.readReg_hostWrite {s : State} (hb : s.busy = false) (r r' : Reg) (v : Word) :
    (s.hostWrite r v).readReg r' = (s.setReg r v).regValue r' := by
  obtain ⟨_, _, _, hbusy, _⟩ := s.hostWrite_frame r v
  rw [State.readReg_idle _ (hbusy.trans hb), s.hostWrite_idle hb]

/-- A register of `k` bits keeps the low `k` bits of the word written to it (20_memory R65). -/
theorem setWidth_setWidth_eq_and (v : Word) {k : Nat} (hk : k ≤ 32) :
    (v.setWidth k).setWidth 32 = v &&& BitVec.ofNat 32 (2 ^ k - 1) := by
  have hpow : 2 ^ k ≤ 2 ^ 32 := Nat.pow_le_pow_right (by decide) hk
  have hone : 0 < 2 ^ k := Nat.two_pow_pos k
  apply BitVec.eq_of_toNat_eq
  rw [BitVec.toNat_setWidth_of_le hk, BitVec.toNat_setWidth, BitVec.toNat_and, BitVec.toNat_ofNat,
    Nat.mod_eq_of_lt (b := 2 ^ 32) (by omega), Nat.and_two_pow_sub_one_eq_mod]

/-- Settles O45: the step is the register write, and each register then holds the bits it keeps of the word. -/
theorem writtenRegistersReadBack : Obligations.WrittenRegistersReadBack := by
  intro s v hb
  simp only [State.readReg_hostWrite hb]
  refine ⟨fun rest off hp hlt h4 h0 => ?_, setWidth_setWidth_eq_and v (k := 8) (by decide),
    setWidth_setWidth_eq_and v (k := 3) (by decide), setWidth_setWidth_eq_and v (k := 8) (by decide),
    setWidth_setWidth_eq_and v (k := 8) (by decide), setWidth_setWidth_eq_and v (k := 8) (by decide), rfl, rfl,
    fun w => Buffer.word_putWord_same _ _ _ (by omega), fun w => Buffer.word_putWord_same _ _ _ (by omega),
    fun w => Buffer.word_putWord_same _ _ _ (by omega), fun w => Buffer.word_putWord_same _ _ _ (by omega)⟩
  rw [step_of_pending_access s hp, State.hostAccess_write _ v hlt h4 h0]

/-- Settles O46: on an idle block reads show what the registers hold, and a write reaches one of them. -/
theorem writesTouchOneRegister : Obligations.WritesTouchOneRegister := by
  intro s r r' v hb _ hr
  rw [State.readReg_hostWrite hb, s.regValue_setReg v hr, s.readReg_idle hb]

/-- Settles O47: a write to these registers sets nothing, whether the block is busy or not. -/
theorem wrongDirectionAccesses : Obligations.WrongDirectionAccesses := by
  intro s r v
  refine ⟨fun hr => ?_, fun hb => ⟨s.readReg_idle hb .cmd, s.readReg_idle hb .reserved⟩⟩
  have hset : s.setReg r v = s := by
    rcases hr with hr | ⟨w, rfl⟩ | ⟨i, rfl⟩ | ⟨b, i, rfl⟩
    · simp only [List.mem_cons, List.not_mem_nil, or_false] at hr
      rcases hr with rfl | rfl | rfl | rfl | rfl <;> rfl
    all_goals rfl
  rw [State.hostWrite, hset, ite_self]

/-- Only `STATUS`, `SEQ`, `ITER` and the reserved offsets read alike in a busy block (20_memory R68; log 10). -/
theorem Reg.not_readableWhileBusy {r : Reg} (h : r ∉ [Reg.status, .seq, .iter, .reserved]) :
    r.readableWhileBusy = false := by
  cases r with
  | status | seq | iter | reserved => simp at h
  | _ => rfl

/-- A read of a register that is always readable sees what it holds, also while the block is busy (20_memory R68). -/
theorem State.readReg_of_readableWhileBusy (s : State) {r : Reg} (h : r.readableWhileBusy = true) :
    s.readReg r = s.regValue r := by
  simp [State.readReg, h]

/-- Settles O48: the write is ignored, and the reads are as `Reg.readableWhileBusy` says. -/
theorem busyBlockIgnoresWrites : Obligations.BusyBlockIgnoresWrites := by
  intro s rest hb
  refine ⟨fun off v hp hlt h4 => ?_, s.readReg_of_readableWhileBusy rfl, s.readReg_of_readableWhileBusy rfl,
    s.readReg_of_readableWhileBusy rfl, fun r hr => s.readReg_busy hb (Reg.not_readableWhileBusy hr)⟩
  rw [step_of_pending_access s hp]
  exact State.hostAccess_write_busy _ v hb hlt h4

/-! ## Cells that nothing has written -/

/-- A byte of the buffer is the stored one if written, the free one if not (20_memory R69). -/
theorem Buffer.read_of_lt {n : Nat} (buf : Buffer n) (free : Nat → Byte) {i : Nat} (h : i < n) :
    buf.read free i = if buf.written[i] then buf.bytes[i] else free i := by
  simp [Buffer.read, h]

/-- Byte `k` of a word read from a buffer: the stored byte if written, that byte of the free word if not (20_memory R62,
R69). -/
theorem Buffer.wordByte_word {n : Nat} (buf : Buffer n) (free : Word) (w : Nat) (k : Fin 4) (h : 4 * w + k.val < n) :
    wordByte (buf.word free w) k = if buf.written[4 * w + k.val] then buf.bytes[4 * w + k.val] else wordByte free k := by
  rw [← buf.read_of_lt (fun _ => wordByte free k) h]
  fin_cases k <;> simp [Buffer.word]

/-- Byte `i` of a buffer as a command sees it: the stored byte if written, the command's free byte if not (20_memory R69;
log 6). -/
theorem Buffer.getElem?_take {m : Nat} (buf : Buffer m) (free : Nat → Byte) {n i : Nat} (hn : i < n) (hm : i < m) :
    (buf.take free n)[i]? = some (if buf.written[i] then buf.bytes[i] else free i) := by
  rw [← buf.read_of_lt free hm]
  simp [Buffer.take, hn]

/-- `P` and `S` read free while nothing specifies them (20_memory R69). -/
theorem State.regValue_cipher_free {s : State} (h : s.cipherReadable = false) (i : Fin 18) (b : Fin 4) (j : Fin 256) :
    s.regValue (.p i) = s.freeRead ∧ s.regValue (.s b j) = s.freeRead := by
  simp [State.regValue, h]

/-- Settles O49, buffer by buffer: words as the host reads them, then bytes as a command sees them. -/
theorem unwrittenCellsAreFree : Obligations.UnwrittenCellsAreFree := by
  intro s hb
  simp only [s.readReg_idle hb]
  refine ⟨fun hsv hz => State.regValue_cipher_free (by rw [State.cipherReadable, hsv, hz]; rfl),
    fun w n => s.key.wordByte_word _ w n _, fun w n => s.salt.wordByte_word _ w n _,
    fun w n => s.raw.wordByte_word _ w n _, fun w n => s.sym.wordByte_word _ w n _,
    fun i hi => s.key.getElem?_take _ hi i.isLt, fun i => s.salt.getElem?_take _ i.isLt i.isLt,
    fun i hi => s.raw.getElem?_take _ hi i.isLt, fun i hi => s.sym.getElem?_take _ hi i.isLt⟩

end Sys2Proof.Machine

/-! The encoding family (30_encoding): commands and their words, the error of a word that is no command and of a reserved
version code, the words of a key, and the groups of the radix-64 codec. -/

namespace Sys2Proof.Machine

/-! ## Commands and their words -/

/-- The encoding facts of `Laws/PerInstr.lean`, for every command at once. -/
theorem encoding_statement (i : Instr) : Laws.Encoding.Statement i := by
  cases i with
  | init => exact Laws.Encoding.init
  | xkey => exact Laws.Encoding.xkey
  | xsalt => exact Laws.Encoding.xsalt
  | xeks => exact Laws.Encoding.xeks
  | encblk => exact Laws.Encoding.encblk
  | magic => exact Laws.Encoding.magic
  | derive => exact Laws.Encoding.derive
  | r64enc => exact Laws.Encoding.r64enc
  | r64dec => exact Laws.Encoding.r64dec
  | clrerr => exact Laws.Encoding.clrerr
  | zeroize => exact Laws.Encoding.zeroize

/-- A command's word decodes to the command (30_encoding R80, R81). -/
@[simp] theorem decode_encode (i : Instr) : decode (encode i) = .ok i := by
  obtain ⟨hzero, hopc, hmap, -⟩ := encoding_statement i
  simp [decode, hzero, hopc, hmap]

/-- Settles O1: the word of a command has its opcode and a clear zero field, and a word is no more than its two fields. -/
theorem decodeAndEncodeAgree : Obligations.DecodeAndEncodeAgree :=
  ⟨decode_encode, fun _ _ h => (eq_encode_of_decode h).symm⟩

/-- Settles O2: commands by their words, the four rejected words by evaluating the decoder. -/
theorem sampleWordsDecode : Obligations.SampleWordsDecode :=
  ⟨decode_encode .init, decode_encode .xeks, decode_encode .derive, decode_encode .r64dec, decode_encode .zeroize,
    by decide, by decide, by decide, by decide⟩

/-! ## A word that is no command -/

/-- The eleven words of the opcode map are the words of the commands (30_encoding R81). -/
theorem mem_opcodeMap_iff (w : Word) :
    w ∈ [0x01#32, 0x02#32, 0x03#32, 0x04#32, 0x05#32, 0x06#32, 0x08#32, 0x10#32, 0x11#32, 0x20#32, 0x21#32] ↔
      ∃ i, encode i = w := by
  constructor
  · have words : [0x01#32, 0x02#32, 0x03#32, 0x04#32, 0x05#32, 0x06#32, 0x08#32, 0x10#32, 0x11#32, 0x20#32, 0x21#32] =
        [Instr.init, .xkey, .xsalt, .xeks, .encblk, .magic, .derive, .r64enc, .r64dec, .clrerr, .zeroize].map encode := rfl
    rw [words, List.mem_map]
    exact fun ⟨i, _, h⟩ => ⟨i, h⟩
  · rintro ⟨i, rfl⟩
    cases i <;> decide

/-- The field `ZERO` is clear exactly when nothing is left of the word above its low byte (30_encoding R80). -/
theorem zeroField_eq_zero_iff (w : Word) : zeroField w = 0#24 ↔ w >>> 8 = 0#32 := by
  rw [zeroField, BitVec.toNat_eq, BitVec.toNat_eq]
  simp
  omega

/-- A word with bits above the opcode is rejected for them, whatever its opcode (30_encoding R83 (b)). -/
theorem decode_of_zeroField_ne {w : Word} (h : zeroField w ≠ 0#24) : decode w = .error .highBitsNotZero := if_neg h

/-- A word without such bits that is no command's word is rejected for its opcode (30_encoding R83 (a)). -/
theorem decode_of_zeroField_eq {w : Word} (h : zeroField w = 0#24) (hw : ¬ ∃ i, encode i = w) :
    decode w = .error .unknownOpcode := by
  cases hmap : instrOfOpcode (opcField w) with
  | none => simp [decode, h, hmap]
  | some i =>
    have hok : decode w = .ok i := by simp [decode, h, hmap]
    exact absurd ⟨i, (eq_encode_of_decode hok).symm⟩ hw

/-- A write of a word that is no command is an illegal command, in either granularity (30_encoding R82). -/
theorem State.commandWrite_error (s : State) {w : Word} {e : DecodeError} (h : decode w = .error e) :
    s.commandWrite w = .next (s.illegalCommand w e) := by
  rw [State.commandWrite, h]

/-- What an idle block without a latched error reports of a word with bits above the opcode (60_exceptions R200). -/
theorem State.illegalCommand_highBits {s : State} (hr : s.Ready) (w : Word) :
    s.illegalCommand w .highBitsNotZero = s.newDraw.raise (opcField w) ⟨.illegal, 2#8, w.extractLsb' 8 16⟩ := by
  simp [State.illegalCommand, hr.idle, hr.no_error]

/-- What it reports of an opcode outside the map (60_exceptions R200). -/
theorem State.illegalCommand_unknownOpcode {s : State} (hr : s.Ready) (w : Word) :
    s.illegalCommand w .unknownOpcode = s.newDraw.raise (opcField w) ⟨.illegal, 1#8, 0#16⟩ := by
  simp [State.illegalCommand, hr.idle, hr.no_error]

/-- The opcode byte is the word's low byte (30_encoding R80). -/
theorem opcField_eq_setWidth (w : Word) : opcField w = w.setWidth 8 :=
  (BitVec.setWidth_eq_extractLsb' (by decide)).symm

/-- The detail of subcode 2, bits 23:8 of the word, is the word shifted down by a byte and cut to 16 bits (60_exceptions
R200). -/
theorem extractLsb'_eq_setWidth_ushiftRight (w : Word) : w.extractLsb' 8 16 = (w >>> 8).setWidth 16 := rfl

/-- Settles O3: the decoder's two reasons, each with what the block reports of it, and the words that are commands. -/
theorem illegalWordRaisesIllegal : Obligations.IllegalWordRaisesIllegal := by
  intro s w hr
  split_ifs with hhigh hmap
  · have hd := decode_of_zeroField_ne ((zeroField_eq_zero_iff w).not.mpr hhigh)
    rw [s.commandWrite_error hd, State.illegalCommand_highBits hr, opcField_eq_setWidth,
      extractLsb'_eq_setWidth_ushiftRight]
    rfl
  · obtain ⟨i, rfl⟩ := (mem_opcodeMap_iff w).mp hmap
    exact ⟨i, decode_encode i⟩
  · have hd := decode_of_zeroField_eq ((zeroField_eq_zero_iff w).mpr (not_not.mp hhigh)) ((mem_opcodeMap_iff w).not.mp hmap)
    rw [s.commandWrite_error hd, State.illegalCommand_unknownOpcode hr, opcField_eq_setWidth]
    rfl

/-! ## A reserved version code -/

/-- `CLRERR` has no check: it works at the write (43_system R160). -/
@[simp] theorem precheck_clrerr (s : State) : precheck .clrerr s = none := by simp [precheck, readsKey, readsCipher]

/-- A command that is not ignored and fails a check takes that error and does nothing else (60_exceptions R210). -/
theorem exec_raises {i : Instr} {s : State} {r : ErrorReport} (hr : s.Ready) (hp : precheck i s.newDraw = some r) :
    exec i s = .next (s.newDraw.raise (opcode i) r) := by
  have hc : i ≠ .clrerr := by rintro rfl; simp at hp
  have hz : i ≠ .zeroize := by rintro rfl; simp at hp
  rw [exec_eq_offer hc hz, State.offer_raises _ hr hp]

/-- The reserved version codes as numbers (30_encoding R84). -/
theorem State.versionReserved_iff (s : State) :
    s.versionReserved = true ↔ 5 ≤ s.version.toNat ∨ (s.version.toNat = 3 ∧ s.mode2x = .refuse) := by
  simp [State.versionReserved, BitVec.lt_def, BitVec.toNat_eq, Nat.succ_le_iff]

/-- The version check of a command that reads the key comes before its other checks (60_exceptions R211 order 5). -/
theorem precheck_of_versionReserved {i : Instr} {s : State} (hi : readsKey i = true) (h : s.versionReserved = true) :
    precheck i s = some ⟨.illegal, 3#8, s.version.setWidth 16⟩ := by
  simp [precheck, hi, h]

/-- The commands that read the key (30_encoding R83 (c)). -/
theorem readsKey_of_mem {i : Instr} (h : i ∈ [Instr.xkey, .xeks, .derive]) : readsKey i = true := by
  revert i; decide

/-- Settles O17: the version check fails, and it is the first check. -/
theorem reservedVersionRaisesIllegal : Obligations.ReservedVersionRaisesIllegal := by
  intro i s hi hr hv
  have hp : precheck i s.newDraw = some ⟨.illegal, 3#8, s.version.setWidth 16⟩ :=
    precheck_of_versionReserved (readsKey_of_mem hi) (s.newDraw.versionReserved_iff.mpr hv)
  rw [exec_raises hr hp]
  rfl

/-! ## Key words -/

/-- `KeyWord` moves the cursor on by four around the key, whatever the mode (30_encoding R86). -/
theorem keyWord_snd (mode : KeyMode) (kb : List Byte) (j : Nat) : (keyWord mode kb j).2 = (j + 4) % kb.length := by
  simp [keyWord, Nat.mod_add_mod, Nat.add_assoc]

/-- Four words shifted in one after another, a byte's width each, stand side by side (30_encoding R85). -/
theorem shiftLeft_or_four (a b c d : Word) :
    (((0#32 <<< 8 ||| a) <<< 8 ||| b) <<< 8 ||| c) <<< 8 ||| d = a <<< 24 ||| b <<< 16 ||| c <<< 8 ||| d := by
  simp [BitVec.shiftLeft_or_distrib, ← BitVec.shiftLeft_add]

/-- `KeyWord` with its cursor inside the key ors the four extended bytes at the cyclic positions, each at its place in the
word (30_encoding R85, R86). -/
theorem keyWord_fst (mode : KeyMode) {kb : List Byte} {j : Nat} (hj : j < kb.length) :
    (keyWord mode kb j).1 =
      (mode.extend (kb.getD ((j + 0) % kb.length) 0#8) <<< 24) |||
      (mode.extend (kb.getD ((j + 1) % kb.length) 0#8) <<< 16) |||
      (mode.extend (kb.getD ((j + 2) % kb.length) 0#8) <<< 8) ||| mode.extend (kb.getD ((j + 3) % kb.length) 0#8) := by
  rw [← shiftLeft_or_four, Nat.add_zero, Nat.mod_eq_of_lt hj]
  simp [keyWord, keyWordStep, Nat.mod_add_mod, Nat.add_assoc]

/-- Settles O27: a literal byte is zero-extended. -/
theorem literalKeyWordIsBigEndian : Obligations.LiteralKeyWordIsBigEndian :=
  fun kb j hj => Prod.ext (keyWord_fst .literal hj) (keyWord_snd .literal kb j)

/-- No key byte having bit 7 set, no turn of the loop of `KeyWord` depends on the mode (30_encoding R86). -/
theorem keyWordStep_of_ascii {kb : List Byte} (h : ∀ b ∈ kb, b.msb = false) (mode : KeyMode) :
    keyWordStep mode kb = keyWordStep .literal kb := by
  funext wj
  have hb : (kb.getD wj.2 0#8).msb = false := by
    rw [List.getD_eq_getElem?_getD]
    cases hget : kb[wj.2]? with
    | none => rfl
    | some b => exact h b (List.mem_of_getElem? hget)
  simp only [keyWordStep, KeyMode.extend_of_msb hb]

/-- Settles O28: the cursor, the turns of the loop on bytes below 0x80, and sign-extended bytes. -/
theorem keyWordModesAgreeOnAscii : Obligations.KeyWordModesAgreeOnAscii := by
  refine ⟨fun kb j => ⟨?_, fun h => ?_⟩, fun kb j hj => keyWord_fst .signed hj⟩
  · rw [keyWord_snd, keyWord_snd]
  · rw [keyWord, keyWord, keyWordStep_of_ascii h]

/-- Settles O29: the four bytes from cursor `4i` modulo 16 on do not wrap around the salt, and are those of salt word `i`
modulo 4. -/
theorem saltAsKeyGivesSaltWords : Obligations.SaltAsKeyGivesSaltWords := by
  intro salt i hlen
  have hj : 4 * i % 16 < salt.length := by omega
  have position (k : Nat) (hk : k < 4) : (4 * i % 16 + k) % 16 = 4 * (i % 4) + k := by omega
  refine Prod.ext ?_ ?_
  · rw [keyWord_fst .literal hj, hlen, position 0 (by decide), position 1 (by decide), position 2 (by decide),
      position 3 (by decide)]
    rfl
  · rw [keyWord_snd, hlen]
    omega

/-! ## The groups of the codec -/

/-- Two fields of six bits together are joined by writing them one after the other (00_scope R9). -/
theorem joinFields_eq_append {m k : Nat} (hi : BitVec m) (lo : BitVec k) : joinFields k hi lo = (hi ++ lo).setWidth 6 :=
  BitVec.setWidth_append_eq_shiftLeft_setWidth_or.symm

/-- The 6-bit values of a group of three bytes, the fields of R89 written one after the other (30_encoding R89). -/
theorem groupValues_cons_three (b0 b1 b2 : Byte) (rest : List Byte) :
    groupValues (b0 :: b1 :: b2 :: rest) =
      [b0.extractLsb' 2 6, b0.extractLsb' 0 2 ++ b1.extractLsb' 4 4, b1.extractLsb' 0 4 ++ b2.extractLsb' 6 2,
        b2.extractLsb' 0 6] ++ groupValues rest := by
  simp [groupValues, joinFields_eq_append]

/-- A trailing group of two bytes: the last value is filled with zeros (30_encoding R89). -/
theorem groupValues_two (b0 b1 : Byte) :
    groupValues [b0, b1] = [b0.extractLsb' 2 6, b0.extractLsb' 0 2 ++ b1.extractLsb' 4 4, b1.extractLsb' 0 4 ++ 0#2] := by
  simp [groupValues, joinFields_eq_append]

/-- A trailing group of one byte: the last value is filled with zeros (30_encoding R89). -/
theorem groupValues_one (b0 : Byte) : groupValues [b0] = [b0.extractLsb' 2 6, b0.extractLsb' 0 2 ++ 0#4] := by
  simp [groupValues, joinFields_eq_append]

/-- The byte that the accumulator puts out: with `nb` bits of it live before the value `v'`, they are the low bits of the
value `v` before that, and the high bits of `v'` complete the byte (42_radix64 R141). -/
theorem decodeBits_output (acc : BitVec 12) (v v' : Sextet) {nb : Nat} (h2 : 2 ≤ nb) (h6 : nb ≤ 6) :
    (((acc <<< 6 ||| v.setWidth 12) <<< 6 ||| v'.setWidth 12) >>> (nb - 2)).setWidth 8 =
      (v.extractLsb' 0 nb ++ v'.extractLsb' (nb - 2) (8 - nb)).setWidth 8 := by
  ext i hi
  by_cases hlow : i < 8 - nb
  · have hv' : nb - 2 + i < 6 := by omega
    simp [BitVec.getLsbD_append, hlow, hv', Nat.lt_trans hv' (by decide : 6 < 12)]
  · have hv : nb - 2 + i - 6 = i - (8 - nb) := by omega
    have hv' : 6 ≤ nb - 2 + i := by omega
    have hvnb : i - (8 - nb) < nb := by omega
    simp [BitVec.getLsbD_append, hlow, hv, hv', hvnb, show nb - 2 + i < 12 by omega,
      show i - (8 - nb) < 6 by omega]

/-- Bits left over at the end are dropped (42_radix64 R141). -/
@[simp] theorem decodeBits_nil (acc : BitVec 12) (nb : Nat) : decodeBits acc nb [] = [] := rfl

/-- The first value of a group gives no byte yet (42_radix64 R141). -/
theorem decodeBits_cons_zero (acc : BitVec 12) (v : Sextet) (vs : List Sextet) :
    decodeBits acc 0 (v :: vs) = decodeBits (acc <<< 6 ||| v.setWidth 12) 6 vs := rfl

/-- Each further value of a group gives a byte and leaves two bits less (42_radix64 R141). -/
theorem decodeBits_cons_output (acc : BitVec 12) (v v' : Sextet) (vs : List Sextet) {nb : Nat} (h2 : 2 ≤ nb) (h6 : nb ≤ 6) :
    decodeBits (acc <<< 6 ||| v.setWidth 12) nb (v' :: vs) =
      (v.extractLsb' 0 nb ++ v'.extractLsb' (nb - 2) (8 - nb)).setWidth 8 ::
        decodeBits ((acc <<< 6 ||| v.setWidth 12) <<< 6 ||| v'.setWidth 12) (nb - 2) vs := by
  rw [decodeBits, if_pos (by omega), decodeBits_output acc v v' h2 h6]

/-- Four values give the three bytes of their group, and no bit is left over (42_radix64 R141). -/
theorem decodeBits_cons_four (acc : BitVec 12) (v0 v1 v2 v3 : Sextet) (rest : List Sextet) :
    ∃ acc', decodeBits acc 0 (v0 :: v1 :: v2 :: v3 :: rest) =
      [v0 ++ v1.extractLsb' 4 2, v1.extractLsb' 0 4 ++ v2.extractLsb' 2 4, v2.extractLsb' 0 2 ++ v3] ++
        decodeBits acc' 0 rest :=
  ⟨_, by simp [decodeBits_cons_zero, decodeBits_cons_output]; rfl⟩

/-- A final group of three values gives two bytes (42_radix64 R141). -/
theorem decodeBits_three (acc : BitVec 12) (v0 v1 v2 : Sextet) :
    decodeBits acc 0 [v0, v1, v2] = [v0 ++ v1.extractLsb' 4 2, v1.extractLsb' 0 4 ++ v2.extractLsb' 2 4] := by
  simp [decodeBits_cons_zero, decodeBits_cons_output]

/-- A final group of two values gives one byte (42_radix64 R141). -/
theorem decodeBits_two (acc : BitVec 12) (v0 v1 : Sextet) :
    decodeBits acc 0 [v0, v1] = [v0 ++ v1.extractLsb' 4 2] := by
  simp [decodeBits_cons_zero, decodeBits_cons_output]

/-- Settles O41: the symbols are the alphabet's for the values of the groups, and the bytes come out of the accumulator
group by group. -/
theorem radixGroups : Obligations.RadixGroups := by
  refine ⟨rfl, rfl, fun b0 b1 b2 rest => ⟨?_, ?_, ?_⟩, fun acc v0 v1 v2 v3 =>
    ⟨?_, decodeBits_three acc v0 v1 v2, decodeBits_two acc v0 v1⟩⟩
  · simp [r64Encode, groupValues_cons_three]
  · simp [r64Encode, groupValues_two]
  · simp [r64Encode, groupValues_one]
  · obtain ⟨acc', h⟩ := decodeBits_cons_four acc v0 v1 v2 v3 []
    simpa using h

end Sys2Proof.Machine

/-! The cipher core (40_cipher_core): `F` and `EncryptBlock`, the two steps of `ExpandKey`, and what `INIT`, `XKEY`,
`XSALT`, `XEKS` and `ENCBLK` do to an idle block. -/

namespace Sys2Proof.Machine

/-! ## The cipher state -/

/-- A subkey is the word of its number (10_state R20). -/
theorem Cipher.subkey_eq (c : Cipher) (i : Fin 18) : c.subkey i = c.p[i] := by simp [Cipher.subkey]

/-- Writing a subkey changes that one word of `P`. -/
theorem Cipher.p_setSubkey (c : Cipher) (n : Nat) (v : Word) (i : Fin 18) :
    (c.setSubkey n v).p[i] = if n = i.val then v else c.p[i] := by
  simp [Cipher.setSubkey, Vector.getElem_setIfInBounds]

/-- Two words written to one table are one change of that table. -/
theorem Cipher.setTable_setTable (c : Cipher) (b : Fin 4) (i j : Nat) (v w : Word) :
    (c.setTable b i v).setTable b j w =
      { c with s := c.s.set b ((c.s[b].setIfInBounds i v).setIfInBounds j w) } := by
  simp [Cipher.setTable]

/-- A cipher state is its subkeys and its tables. -/
theorem Cipher.eq_of_p_s {c d : Cipher} (hp : c.p = d.p) (hs : c.s = d.s) : c = d := by
  cases c
  cases d
  exact congrArg₂ Cipher.mk hp hs

/-! ## `EncryptBlock` without swaps -/

/-- Two rounds of `EncryptBlock` in the form without swaps, `i` odd: `R ^= F(S, L) ^ P[i]`, `L ^= F(S, R) ^ P[i+1]`
(40_cipher_core R101). -/
def Cipher.roundPair (c : Cipher) (lr : Word × Word) (i : Nat) : Word × Word :=
  let r := lr.2 ^^^ (c.f lr.1 ^^^ c.subkey i)
  (lr.1 ^^^ (c.f r ^^^ c.subkey (i + 1)), r)

/-- A pair of rounds without swaps is two rounds with swaps; the form without swaps has the next subkey in the left half
already, before the pair and after it (40_cipher_core R101). -/
theorem Cipher.roundPair_eq (c : Cipher) (lr : Word × Word) (i : Nat) :
    c.roundPair (lr.1 ^^^ c.subkey i, lr.2) (i + 1) =
      ((c.round (c.round lr i) (i + 1)).1 ^^^ c.subkey (i + 2), (c.round (c.round lr i) (i + 1)).2) := by
  simp only [Cipher.roundPair, Cipher.round, BitVec.xor_assoc]

/-- `n` pairs of rounds without swaps are `2n` rounds with swaps, but for the next subkey in the left half. -/
theorem Cipher.foldl_roundPair (c : Cipher) (lr : Word × Word) (n : Nat) :
    ((List.range n).map (2 * · + 1)).foldl c.roundPair (lr.1 ^^^ c.subkey 0, lr.2) =
      (((List.range (2 * n)).foldl c.round lr).1 ^^^ c.subkey (2 * n), ((List.range (2 * n)).foldl c.round lr).2) := by
  induction n with
  | zero => rfl
  | succ n ih =>
    rw [List.range_succ, List.map_append, List.foldl_append, ih, Nat.mul_succ, List.range_succ, List.range_succ,
      List.foldl_append, List.foldl_append]
    exact c.roundPair_eq _ (2 * n)

/-- Settles O26: the eight pairs of rounds leave the last subkey of the left half in place. -/
theorem encryptBlockWithoutSwaps : Obligations.EncryptBlockWithoutSwaps := by
  refine ⟨fun _ _ => rfl, Cipher.subkey_eq, fun c l r => ?_⟩
  have pairs := c.foldl_roundPair (l, r) 8
  rw [c.encryptBlock_eq]
  exact congrArg (fun lr : Word × Word => (lr.2 ^^^ c.subkey 17, lr.1)) pairs.symm

/-! ## Step 1 of `ExpandKey` -/

/-- The key cursor before key word `i` of step 1 (40_cipher_core R102 (a)). -/
def keyCursor (mode : KeyMode) (kb : List Byte) : Nat → Nat
  | 0 => 0
  | i + 1 => (keyWord mode kb (keyCursor mode kb i)).2

/-- Subkey `i` with its key word exclusive-ored in, the cursor moved on: one turn of step 1 (40_cipher_core R102
(a)). -/
def mixKeyTurn (mode : KeyMode) (kb : List Byte) (cj : Cipher × Nat) (i : Nat) : Cipher × Nat :=
  (cj.1.setSubkey i (cj.1.subkey i ^^^ (keyWord mode kb cj.2).1), (keyWord mode kb cj.2).2)

/-- Step 1 is eighteen such turns from the first key byte on (40_cipher_core R102 (a)). -/
theorem mixKey_eq (mode : KeyMode) (kb : List Byte) (c : Cipher) :
    mixKey mode kb c = ((List.range 18).foldl (mixKeyTurn mode kb) (c, 0)).1 := rfl

/-- After `n` turns of step 1 the tables are as they were, the first `n` subkeys have their key words in them, and the
cursor stands at the next key word. -/
theorem foldl_mixKeyTurn (mode : KeyMode) (kb : List Byte) (c : Cipher) (n : Nat) :
    ((List.range n).foldl (mixKeyTurn mode kb) (c, 0)).2 = keyCursor mode kb n ∧
    ((List.range n).foldl (mixKeyTurn mode kb) (c, 0)).1.s = c.s ∧
    ∀ i : Fin 18, ((List.range n).foldl (mixKeyTurn mode kb) (c, 0)).1.p[i] =
      if i.val < n then c.p[i] ^^^ (keyWord mode kb (keyCursor mode kb i)).1 else c.p[i] := by
  induction n with
  | zero => exact ⟨rfl, rfl, fun i => rfl⟩
  | succ n ih =>
    rw [List.range_succ, List.foldl_append]
    obtain ⟨hcursor, htables, hsubkeys⟩ := ih
    generalize (List.range n).foldl (mixKeyTurn mode kb) (c, 0) = cj at hcursor htables hsubkeys
    refine ⟨congrArg (fun j => (keyWord mode kb j).2) hcursor, htables, fun i => ?_⟩
    refine (Cipher.p_setSubkey ..).trans ?_
    by_cases hin : n = i.val
    · subst hin
      rw [if_pos rfl, if_pos (Nat.lt_succ_self _), Cipher.subkey_eq, hsubkeys, if_neg (Nat.lt_irrefl _), hcursor]
    · have hlt : i.val < n + 1 ↔ i.val < n := by omega
      rw [if_neg hin, hsubkeys]
      simp only [hlt]

/-- Step 1 leaves the tables alone (40_cipher_core R102 (a)). -/
@[simp] theorem s_mixKey (mode : KeyMode) (kb : List Byte) (c : Cipher) : (mixKey mode kb c).s = c.s := by
  obtain ⟨-, htables, -⟩ := foldl_mixKeyTurn mode kb c 18
  exact htables

/-- Step 1 exclusive-ors each subkey with the key word of its number (40_cipher_core R102 (a)). -/
theorem p_mixKey (mode : KeyMode) (kb : List Byte) (c : Cipher) (i : Fin 18) :
    (mixKey mode kb c).p[i] = c.p[i] ^^^ (keyWord mode kb (keyCursor mode kb i)).1 := by
  obtain ⟨-, -, hsubkeys⟩ := foldl_mixKeyTurn mode kb c 18
  rw [mixKey_eq, hsubkeys i, if_pos i.isLt]

/-- A byte 0 is extended to a word 0 in either mode (30_encoding R86). -/
@[simp] theorem KeyMode.extend_zero (mode : KeyMode) : mode.extend 0#8 = 0#32 := KeyMode.extend_of_msb rfl mode

/-- The words of a key of zero bytes are zero, wherever the cursor is (30_encoding R86). -/
theorem keyWord_zeros (mode : KeyMode) (n j : Nat) : (keyWord mode (List.replicate n 0#8) j).1 = 0#32 := by
  simp [keyWord, keyWordStep]

/-- Settles O30: every subkey has a zero word exclusive-ored in. -/
theorem zeroKeyLeavesSubkeys : Obligations.ZeroKeyLeavesSubkeys := by
  intro mode n c
  refine Cipher.eq_of_p_s (Vector.ext fun i hi => ?_) (s_mixKey mode _ c)
  have hword := p_mixKey mode (List.replicate (n + 1) 0#8) c ⟨i, hi⟩
  rwa [keyWord_zeros, BitVec.xor_zero] at hword

/-! ## Step 2 of `ExpandKey` -/

/-- Turn `t` of step 2: the subkeys `P[2t]`, `P[2t+1]`, and after nine turns two words of the tables, 128 turns a table
(40_cipher_core R102 (b)). -/
def Refill.turn (sw : Vector Word 4) (t : Nat) (r : Refill) : Refill :=
  if t < 9 then r.subkeys sw (2 * t)
  else r.tableWords sw (Fin.ofNat 4 ((t - 9) / 128)) (2 * ((t - 9) % 128))

/-- The working values of step 2 from cipher state `c` after `t` encryptions (40_cipher_core R102). -/
def refillAfter (sw : Vector Word 4) (c : Cipher) : Nat → Refill
  | 0 => ⟨c, (0#32, 0#32), 0⟩
  | t + 1 => (refillAfter sw c t).turn sw t

/-- The first nine turns refill subkeys (40_cipher_core R102). -/
theorem Refill.turn_subkeys (sw : Vector Word 4) {t : Nat} (ht : t < 9) (r : Refill) :
    r.turn sw t = r.subkeys sw (2 * t) := if_pos ht

/-- The turns after them refill the tables one after the other (40_cipher_core R102). -/
theorem Refill.turn_table (sw : Vector Word 4) (n : Fin 4) {k : Nat} (hk : k < 128) (r : Refill) :
    r.turn sw (9 + 128 * n.val + k) = r.tableWords sw n (2 * k) := by
  have hn : Fin.ofNat 4 ((9 + 128 * n.val + k - 9) / 128) = n := by
    apply Fin.ext
    rw [Fin.val_ofNat]
    omega
  have hmod : (9 + 128 * n.val + k - 9) % 128 = k := by omega
  rw [Refill.turn, if_neg (by omega), hn, hmod]

/-- Every turn chains the block by its encryption (40_cipher_core R102 (b)). -/
theorem Refill.turn_block (sw : Vector Word 4) (t : Nat) (r : Refill) : (r.turn sw t).block = (r.encrypt sw).block := by
  unfold Refill.turn
  split <;> rfl

/-- Every turn is counted (40_cipher_core R102 (f)). -/
theorem Refill.turn_t (sw : Vector Word 4) (t : Nat) (r : Refill) : (r.turn sw t).t = r.t + 1 := by
  unfold Refill.turn
  split <;> rfl

/-- The salt counter after `t` encryptions is `t` (40_cipher_core R102 (f)). -/
@[simp] theorem refillAfter_t (sw : Vector Word 4) (c : Cipher) (t : Nat) : (refillAfter sw c t).t = t := by
  induction t with
  | zero => rfl
  | succ t ih => rw [refillAfter, Refill.turn_t, ih]

/-- Encryption `t` takes the block before it with salt pair `t`, under the state refilled so far (40_cipher_core R102
(b), (c), (f)). -/
theorem refillAfter_succ_block (sw : Vector Word 4) (c : Cipher) (t : Nat) :
    (refillAfter sw c (t + 1)).block = (refillAfter sw c t).cipher.encryptBlock
      ((refillAfter sw c t).block.1 ^^^ sw[2 * t % 4]?.getD 0#32,
        (refillAfter sw c t).block.2 ^^^ sw[(2 * t + 1) % 4]?.getD 0#32) := by
  rw [refillAfter, Refill.turn_block, Refill.encrypt, refillAfter_t]

/-- An encryption of the first nine is stored in `P[2t]`, `P[2t+1]` (40_cipher_core R102 (b)). -/
theorem refillAfter_succ_cipher_subkeys (sw : Vector Word 4) (c : Cipher) {t : Nat} (ht : t < 9) :
    (refillAfter sw c (t + 1)).cipher =
      ((refillAfter sw c t).cipher.setSubkey (2 * t) (refillAfter sw c (t + 1)).block.1).setSubkey (2 * t + 1)
        (refillAfter sw c (t + 1)).block.2 := by
  simp only [refillAfter, Refill.turn_subkeys sw ht, Refill.subkeys, Refill.encrypt_cipher]

/-- An encryption after them is stored in `S[n][2k]`, `S[n][2k+1]` (40_cipher_core R102 (b)). -/
theorem refillAfter_succ_cipher_table (sw : Vector Word 4) (c : Cipher) (n : Fin 4) {k : Nat} (hk : k < 128) :
    (refillAfter sw c (9 + 128 * n.val + k + 1)).cipher =
      ((refillAfter sw c (9 + 128 * n.val + k)).cipher.setTable n (2 * k)
        (refillAfter sw c (9 + 128 * n.val + k + 1)).block.1).setTable n (2 * k + 1)
        (refillAfter sw c (9 + 128 * n.val + k + 1)).block.2 := by
  simp only [refillAfter, Refill.turn_table sw n hk, Refill.tableWords, Refill.encrypt_cipher]

/-- The loop over table `n` takes the working values 128 encryptions on. -/
theorem foldl_tableWords (sw : Vector Word 4) (c : Cipher) (n : Fin 4) :
    (evens 128).foldl (Refill.tableWords sw n) (refillAfter sw c (9 + 128 * n.val)) =
      refillAfter sw c (9 + 128 * n.val + 128) :=
  foldl_evens _ (fun k => refillAfter sw c (9 + 128 * n.val + k)) 128 fun _ hk => Refill.turn_table sw n hk _

/-- Step 2 is 521 encryptions: nine for the subkeys, 128 for each table (40_cipher_core R102 (d)). -/
theorem refillAll_eq (sw : Vector Word 4) (c : Cipher) : refillAll sw c = (refillAfter sw c 521).cipher := by
  have subkeys : (evens 9).foldl (Refill.subkeys sw) ⟨c, (0#32, 0#32), 0⟩ = refillAfter sw c 9 :=
    foldl_evens _ (refillAfter sw c) 9 fun _ ht => Refill.turn_subkeys sw ht _
  have table0 : (evens 128).foldl (Refill.tableWords sw 0) (refillAfter sw c 9) = refillAfter sw c 137 :=
    foldl_tableWords sw c 0
  have table1 : (evens 128).foldl (Refill.tableWords sw 1) (refillAfter sw c 137) = refillAfter sw c 265 :=
    foldl_tableWords sw c 1
  have table2 : (evens 128).foldl (Refill.tableWords sw 2) (refillAfter sw c 265) = refillAfter sw c 393 :=
    foldl_tableWords sw c 2
  have table3 : (evens 128).foldl (Refill.tableWords sw 3) (refillAfter sw c 393) = refillAfter sw c 521 :=
    foldl_tableWords sw c 3
  simp only [refillAll, subkeys, List.foldl_cons, List.foldl_nil, table0, table1, table2, table3]

/-! ## The commands -/

/-- A command with a phase that is not ignored and passes its checks does its work and is completed (30_encoding
R82). -/
theorem exec_completes {i : Instr} {s : State} (hc : i ≠ .clrerr) (hz : i ≠ .zeroize) (hr : s.Ready)
    (hp : precheck i s.newDraw = none) : exec i s = .next ((s.newDraw.accept i).workOf i).finish := by
  rw [exec_eq_offer hc hz, State.offer_accepts _ hr hp]

/-- A usable key is usable whatever number the command has (10_state R23, R26). -/
theorem State.KeyUsable.newDraw {s : State} (hk : s.KeyUsable) : s.newDraw.KeyUsable :=
  ⟨hk.version, hk.not_empty, hk.not_long⟩

/-- A command that reads the cipher state fails for `SV = 0`, unless the version check before that fails (60_exceptions
R207, R211 order 6). -/
theorem precheck_of_sv_false {i : Instr} {s : State} (hi : readsCipher i = true)
    (hv : (readsKey i && s.versionReserved) = false) (h : s.sv = false) :
    precheck i s = some ⟨.state, 1#8, 0#16⟩ := by
  simp [precheck, hi, hv, h]

/-- `XKEY` and `XEKS` with a usable key and `SV = 1` do their work (40_cipher_core R104, R106). -/
theorem exec_key_completes {i : Instr} (hi : i = .xkey ∨ i = .xeks) {s : State} (hr : s.Ready) (hk : s.KeyUsable)
    (hsv : s.sv = true) : exec i s = .next ((s.newDraw.accept i).workOf i).finish :=
  exec_completes (by rcases hi with rfl | rfl <;> decide) (by rcases hi with rfl | rfl <;> decide) hr
    (precheck_key hi hk.newDraw hsv)

/-- Settles O6: `INIT` has no check, and its work is to load the constants. -/
theorem initLoadsTheConstants : Obligations.InitLoadsTheConstants :=
  ⟨rfl, rfl, rfl, rfl, rfl, fun s hr => exec_completes (by decide) (by decide) hr (precheck_init s.newDraw)⟩

/-- Settles O7: the checks of `XKEY` hold, and its work is the unsalted expansion. -/
theorem xkeyExpandsTheKey : Obligations.XkeyExpandsTheKey :=
  fun _ hr hk hsv => exec_key_completes (.inl rfl) hr hk hsv

/-- Settles O8: the only check of `XSALT` is that of `SV`. -/
theorem xsaltExpandsTheSalt : Obligations.XsaltExpandsTheSalt :=
  ⟨rfl, fun _ hr =>
    ⟨fun hsv => exec_completes (by decide) (by decide) hr (precheck_sv (.inl rfl) hsv),
      fun hsv => exec_raises hr (precheck_of_sv_false rfl rfl hsv)⟩⟩

/-- Settles O10: the only check of `ENCBLK` is that of `SV`. -/
theorem encblkEncryptsTheBlock : Obligations.EncblkEncryptsTheBlock :=
  ⟨rfl, fun _ hr =>
    ⟨fun hsv => exec_completes (by decide) (by decide) hr (precheck_sv (.inr (.inl rfl)) hsv),
      fun hsv => exec_raises hr (precheck_of_sv_false rfl rfl hsv)⟩⟩

/-- Settles O9: the work of `XEKS` is the salted expansion; its sequences are the key cursors of step 1 and the working
values of step 2. -/
theorem xeksExpandsKeyWithSalt : Obligations.XeksExpandsKeyWithSalt := by
  refine ⟨fun _ hr hk hsv => exec_key_completes (.inr rfl) hr hk hsv, fun sw mode kb c0 => ?_⟩
  refine ⟨keyCursor mode kb, fun t => (refillAfter sw (mixKey mode kb c0) t).block,
    fun t => (refillAfter sw (mixKey mode kb c0) t).cipher, rfl, fun _ => rfl, s_mixKey mode kb c0,
    p_mixKey mode kb c0, rfl, refillAfter_succ_block sw _, fun t => refillAfter_succ_cipher_subkeys sw _, ?_, ?_⟩
  · rintro n k t hk rfl
    exact (refillAfter_succ_cipher_table sw _ n hk).trans (Cipher.setTable_setTable ..)
  · rw [expandKey_eq, refillAll_eq]

/-- Every salt byte of a salt written all zero is 0 (10_state R24). -/
theorem State.saltBytes_of_zeroed {s : State} (h : s.salt = Buffer.zeroed 16) :
    s.saltBytes = List.replicate 16 0#8 := by
  rw [State.saltBytes, h, Buffer.take, List.eq_replicate_iff]
  refine ⟨by simp, fun b hb => ?_⟩
  obtain ⟨i, hi, rfl⟩ := List.mem_map.mp hb
  exact Buffer.read_zeroed _ (List.mem_range.mp hi)

/-- The salt words of an all-zero salt are those of the unsalted expansion (40_cipher_core R102 (e)). -/
theorem saltWords_zeros : saltWords (List.replicate 16 0#8) = noSalt := by decide

/-- Settles O31: the two commands expand with the same salt words. -/
theorem xeksWithZeroSaltIsXkey : Obligations.XeksWithZeroSaltIsXkey := by
  intro s hr hk hsv hsalt
  refine ⟨_, exec_key_completes (.inl rfl) hr hk hsv, ?_⟩
  have hwords : saltWords (s.newDraw.accept .xeks).saltBytes = noSalt := by
    have hbytes : s.newDraw.saltBytes = List.replicate 16 0#8 := State.saltBytes_of_zeroed hsalt
    rw [State.accept_saltBytes, hbytes, saltWords_zeros]
  simp only [exec_key_completes (.inr rfl) hr hk hsv, State.workOf, State.xeksWork_eq, hwords]
  rfl

end Sys2Proof.Machine

/-! The key schedule (41_key_schedule): `MagicEncrypt` and the digest, the phases of `DERIVE` one engine turn after the other,
commands performed phase by phase, and the schedule driven by hand. -/

namespace Sys2Proof.Machine

/-! ## `MagicEncrypt` and the digest -/

/-- Passes over a list of values are, for each value, as many turns of the function (41_key_schedule R126). -/
theorem iterate_map_eq_map_iterate {α : Type} (f : α → α) (n : Nat) (l : List α) :
    Nat.iterate (List.map f) n l = l.map (Nat.iterate f n) := by
  induction n generalizing l with
  | zero => exact (List.map_id l).symm
  | succ n ih => rw [Nat.iterate, ih, List.map_map]; rfl

/-- Settles O32: the passes keep the three blocks apart. -/
theorem magicBlockOrderIsImmaterial : Obligations.MagicBlockOrderIsImmaterial := by
  intro c
  rw [iterate_map_eq_map_iterate, List.flatMap_map]
  rfl

/-- `MagicEncrypt` gives 24 bytes (41_key_schedule R121). -/
theorem length_magicEncrypt (c : Cipher) : (magicEncrypt c).length = 24 := rfl

/-- The digest bytes are bytes of `MagicEncrypt`, so the digest is its first 23 (41_key_schedule R123). -/
theorem getElem_digestOf (c : Cipher) (i : Fin 23) : (magicEncrypt c)[i.val]? = some (digestOf c)[i] := by
  have hi : i.val < (magicEncrypt c).length := by rw [length_magicEncrypt]; omega
  simp [digestOf_eq, hi]

/-- Settles O11: the only check of `MAGIC` is that of `SV`. -/
theorem magicWritesTheDigest : Obligations.MagicWritesTheDigest :=
  ⟨rfl, getElem_digestOf, fun _ hr =>
    ⟨fun hsv => exec_completes (by decide) (by decide) hr (precheck_sv (.inr (.inr rfl)) hsv),
      fun hsv => exec_raises hr (precheck_of_sv_false rfl rfl hsv)⟩⟩

/-! ## `DERIVE` as one transition -/

/-- The cost check passes for the costs 4..31 (60_exceptions R201). -/
theorem State.costOutOfRange_eq_false {s : State} (h4 : 4 ≤ s.cost.toNat) (h31 : s.cost.toNat ≤ 31) :
    s.costOutOfRange = false := by
  simp [State.costOutOfRange, BitVec.lt_def, h4, h31]

/-- `DERIVE` with a usable key and a legal cost does its work, whatever `SV` is (41_key_schedule R124). -/
theorem exec_derive_completes {s : State} (hr : s.Ready) (hk : s.KeyUsable) (h4 : 4 ≤ s.cost.toNat)
    (h31 : s.cost.toNat ≤ 31) : exec .derive s = .next ((s.newDraw.accept .derive).workOf .derive).finish :=
  exec_completes (by decide) (by decide) hr (precheck_derive hk.newDraw (State.costOutOfRange_eq_false h4 h31))

/-- Settles O12: the work of `DERIVE` ends with the digest of `EksSetup`. -/
theorem deriveWritesTheDigest : Obligations.DeriveWritesTheDigest :=
  fun _ hr hk h4 h31 => exec_derive_completes hr hk h4 h31

/-- What a completed `DERIVE` leaves in `DIGEST` and `ITER` (41_key_schedule R124, 10_state R34). -/
theorem digest_iter_of_exec_derive {s t : State} (hr : s.Ready) (hk : s.KeyUsable) (h4 : 4 ≤ s.cost.toNat)
    (h31 : s.cost.toNat ≤ 31) (h : exec .derive s = .next t) :
    t.digest = digestOf (eksSetup (keyModeOf s.version) s.newDraw.keyBytes s.newDraw.saltBytes s.cost) ∧
      t.iter = BitVec.ofNat 32 (rounds s.cost) := by
  cases (exec_derive_completes hr hk h4 h31).symm.trans h
  exact ⟨rfl, rfl⟩

/-! ## What the digest depends on -/

/-- Two buffers that agree on their first `n` bytes, all of them written, are the same to a command, whatever the free bytes
(20_memory R69). -/
theorem Buffer.take_eq_of_written {m n : Nat} {buf buf' : Buffer m} (hn : n ≤ m)
    (hw : ∀ i : Fin m, i.val < n → buf.written[i] = true) (hw' : ∀ i : Fin m, i.val < n → buf'.written[i] = true)
    (hb : ∀ i : Fin m, i.val < n → buf'.bytes[i] = buf.bytes[i]) (free free' : Nat → Byte) :
    buf'.take free' n = buf.take free n := by
  apply List.map_congr_left
  intro i hi
  have hi : i < n := List.mem_range.mp hi
  have him : i < m := by omega
  have w := hw ⟨i, him⟩ hi
  have w' := hw' ⟨i, him⟩ hi
  have b := hb ⟨i, him⟩ hi
  simp only [Fin.getElem_fin] at w w' b
  simp [Buffer.read_of_lt _ _ him, w, w', b]

/-- The key that a command sees, once written, is that of `KEY` and `KEYLEN`, whatever the number of the command
(10_state R23). -/
theorem State.keyBytes_eq_of_written {s t : State} (hk : s.KeyUsable) (hs : s.OperandsWritten) (ht : t.OperandsWritten)
    (hlen : t.keylen = s.keylen) (hb : ∀ j : Fin 72, j.val < s.keylen.toNat → t.key.bytes[j] = s.key.bytes[j]) :
    t.keyBytes = s.keyBytes := by
  have ht' := ht.key
  unfold State.keyBytes
  rw [hlen] at ht' ⊢
  exact Buffer.take_eq_of_written hk.not_long hs.key ht' hb _ _

/-- The salt that a command sees, once written, is that of `SALT`, whatever the number of the command (10_state R24). -/
theorem State.saltBytes_eq_of_written {s t : State} (hs : s.OperandsWritten) (ht : t.OperandsWritten)
    (hb : t.salt.bytes = s.salt.bytes) : t.saltBytes = s.saltBytes :=
  Buffer.take_eq_of_written (le_refl 16) (fun i _ => hs.salt i) (fun i _ => ht.salt i) (fun i _ => by rw [hb]) _ _

/-- Operands that are written are so whatever number the command has. -/
theorem State.OperandsWritten.newDraw {s : State} (h : s.OperandsWritten) : s.newDraw.OperandsWritten := ⟨h.key, h.salt⟩

/-- The assembly mode asks of the version only whether it is `2x` (30_encoding R84). -/
theorem keyModeOf_congr {v w : BitVec 3} (h : w = 3#3 ↔ v = 3#3) : keyModeOf w = keyModeOf v := by
  simp only [keyModeOf, h]

/-- Settles O34: the arguments of `EksSetup` are the same in the two blocks. -/
theorem digestDependsOnOperandsOnly : Obligations.DigestDependsOnOperandsOnly := by
  intro s t s' t' hrs hrt hks hkt h4 h31 hcost hlen hver hws hwt hkey hsalt hs ht
  obtain ⟨hsd, hsi⟩ := digest_iter_of_exec_derive hrs hks h4 h31 hs
  obtain ⟨htd, hti⟩ := digest_iter_of_exec_derive hrt hkt (hcost ▸ h4) (hcost ▸ h31) ht
  have hkeyBytes : t.newDraw.keyBytes = s.newDraw.keyBytes :=
    State.keyBytes_eq_of_written hks.newDraw hws.newDraw hwt.newDraw hlen hkey
  have hsaltBytes : t.newDraw.saltBytes = s.newDraw.saltBytes :=
    State.saltBytes_eq_of_written hws.newDraw hwt.newDraw hsalt
  exact ⟨by rw [htd, hsd, keyModeOf_congr hver, hkeyBytes, hsaltBytes, hcost], by rw [hti, hsi, hcost]⟩

/-- No key byte having bit 7 set, the key expansion does not depend on the mode (30_encoding R86). -/
theorem expandKey_of_ascii {kb : List Byte} (h : ∀ b ∈ kb, b.msb = false) (sw : Vector Word 4) (mode : KeyMode) :
    expandKey sw mode kb = expandKey sw .literal kb := by
  funext c
  rw [expandKey_eq, expandKey_eq, mixKey, mixKey]
  unfold keyWord
  rw [keyWordStep_of_ascii h mode]

/-- ... nor does the whole of `EksSetup` (41_key_schedule R127). -/
theorem eksSetup_of_ascii {kb : List Byte} (h : ∀ b ∈ kb, b.msb = false) (mode : KeyMode) (salt : List Byte)
    (cost : Byte) : eksSetup mode kb salt cost = eksSetup .literal kb salt cost := by
  have hpass : eksPass mode kb salt = eksPass .literal kb salt := by
    funext c
    rw [eksPass, eksPass, expandKey_of_ascii h]
  rw [eksSetup_eq, eksSetup_eq, hpass, expandKey_of_ascii h]

/-- A usable key is usable under every version that is legal with `MODE_2X = signext` (30_encoding R84). -/
theorem State.KeyUsable.withVersion {s : State} (hk : s.KeyUsable) (hm : s.mode2x = .signext) {v : BitVec 3}
    (hv : v.toNat ≤ 4) : State.KeyUsable { s with version := v } where
  version := by
    rw [← Bool.not_eq_true, State.versionReserved_iff]
    simp only [hm, reduceCtorEq, and_false, or_false]
    omega
  not_empty := hk.not_empty
  not_long := hk.not_long

/-- Settles O35: the version reaches the digest through the assembly mode of the key only. -/
theorem asciiKeyDigestIgnoresVersion : Obligations.AsciiKeyDigestIgnoresVersion := by
  intro s s' t' v hr hk h4 h31 hv hm hascii hs ht
  obtain ⟨hsd, -⟩ := digest_iter_of_exec_derive hr hk h4 h31 hs
  obtain ⟨htd, -⟩ := digest_iter_of_exec_derive (s := { s with version := v }) ⟨hr.idle, hr.no_error⟩
    (hk.withVersion hm hv) h4 h31 ht
  have hkeyBytes : (State.newDraw { s with version := v }).keyBytes = s.newDraw.keyBytes := rfl
  rw [htd, hsd, hkeyBytes, eksSetup_of_ascii hascii, eksSetup_of_ascii hascii (keyModeOf s.version)]
  rfl

/-! ## The phases of `DERIVE` -/

section phases

variable {s : State} (hb : s.busy = true) (hd : s.inDerive = true)

include hb hd

/-- `P_INIT` of `DERIVE` (41_key_schedule R125). -/
theorem State.engineStep_derive_pInit (hp : s.phase = .pInit) : s.engineStep = s.loadConstants.goTo .pXeks := by
  simpa [hp] using State.engineStep_derive hb hd (by rw [hp]; decide)

/-- `P_XEKS` of `DERIVE` (41_key_schedule R125). -/
theorem State.engineStep_derive_pXeks (hp : s.phase = .pXeks) : s.engineStep = s.xeksWork.goTo .pXkey := by
  simpa [hp] using State.engineStep_derive hb hd (by rw [hp]; decide)

/-- `P_XKEY` of `DERIVE` (41_key_schedule R125). -/
theorem State.engineStep_derive_pXkey (hp : s.phase = .pXkey) : s.engineStep = s.xkeyWork.goTo .pXsalt := by
  simpa [hp] using State.engineStep_derive hb hd (by rw [hp]; decide)

/-- `P_XSALT` of `DERIVE`, the end of a pass (41_key_schedule R125). -/
theorem State.engineStep_derive_pXsalt (hp : s.phase = .pXsalt) : s.engineStep =
    s.xsaltWork.countPass.goTo (if (s.iter + 1#32).toNat < rounds s.cost then .pXkey else .pMagic) := by
  simpa [hp] using State.engineStep_derive hb hd (by rw [hp]; decide)

/-- `P_MAGIC` of `DERIVE`, its last phase (41_key_schedule R125). -/
theorem State.engineStep_derive_pMagic (hp : s.phase = .pMagic) : s.engineStep = s.magicWork.discardCipher.finish := by
  simpa [hp] using State.engineStep_derive hb hd (by rw [hp]; decide)

end phases

/-- Settles O53, phase by phase. -/
theorem derivePhaseOrder : Obligations.DerivePhaseOrder := by
  intro s hb ho
  have hd : s.inDerive = true := decide_eq_true ho
  split
  next hp => rw [State.engineStep_derive_pInit hb hd hp]; exact ⟨rfl, rfl, hb⟩
  next hp => rw [State.engineStep_derive_pXeks hb hd hp]; exact ⟨rfl, rfl, hb⟩
  next hp => rw [State.engineStep_derive_pXkey hb hd hp]; exact ⟨rfl, rfl, hb⟩
  next hp => rw [State.engineStep_derive_pXsalt hb hd hp]; exact ⟨rfl, hb, rfl⟩
  next hp => rw [State.engineStep_derive_pMagic hb hd hp]; exact ⟨rfl, rfl, rfl, rfl⟩
  next => trivial

/-! ## Commands performed phase by phase -/

/-- A running `DERIVE` at the end of pass `k` of its cost loop, in terms of the state that accepted it; with `k = 0`, before
the first pass (41_key_schedule R122, R125; 10_state R34). -/
def State.afterPasses (s : State) (k : Nat) : State :=
  ((s.loadConstants.withCipher
    (Nat.iterate (eksPass (keyModeOf s.version) s.keyBytes s.saltBytes) k
      (expandKey (saltWords s.saltBytes) (keyModeOf s.version) s.keyBytes Cipher.initial))).withIter
    (BitVec.ofNat 32 k)).goTo (if k < rounds s.cost then .pXkey else .pMagic)

/-- One pass more is a pass of `EksSetup` on the cipher state, counted in `ITER` (41_key_schedule R122, 10_state R34). -/
theorem State.afterPasses_succ (s : State) (k : Nat) : s.afterPasses (k + 1) =
    (((s.afterPasses k).withCipher
      (eksPass (keyModeOf s.version) s.keyBytes s.saltBytes (s.afterPasses k).cipher)).withIter
      (BitVec.ofNat 32 (k + 1))).goTo (if k + 1 < rounds s.cost then .pXkey else .pMagic) := by
  rw [State.afterPasses, Function.iterate_succ_apply']
  rfl

/-- `a` has just accepted command `i`; a `DERIVE` with `ITER` at 0 and a legal cost (30_encoding R82, 10_state R34). -/
structure State.HasAccepted (a : State) (i : Instr) : Prop where
  busy : a.busy = true
  opc : a.opc = opcode i
  phase : a.phase = firstPhase i
  derive : i = .derive → a.iter = 0#32 ∧ a.cost.toNat ≤ 31

/-- The first two phases of `DERIVE` make the salted expansion of the constants (41_key_schedule R125). -/
theorem State.HasAccepted.afterPasses_zero {a : State} (h : a.HasAccepted .derive) :
    a.engineStep.engineStep = a.afterPasses 0 := by
  obtain ⟨hiter, -⟩ := h.derive rfl
  have hd : a.inDerive = true := decide_eq_true h.opc
  rw [State.engineStep_derive_pInit h.busy hd h.phase,
    State.engineStep_derive_pXeks (s := a.loadConstants.goTo .pXeks) h.busy hd rfl, State.afterPasses,
    if_pos (rounds_pos _), ← hiter]
  rfl

/-- The two phases of a pass make one pass of `EksSetup` and count it (41_key_schedule R125). -/
theorem State.HasAccepted.afterPasses_succ {a : State} (h : a.HasAccepted .derive) {k : Nat} (hk : k < rounds a.cost) :
    (a.afterPasses k).engineStep.engineStep = a.afterPasses (k + 1) := by
  obtain ⟨-, hcost⟩ := h.derive rfl
  have hd : a.inDerive = true := decide_eq_true h.opc
  have hphase : (a.afterPasses k).phase = .pXkey := if_pos hk
  have hcount : ((a.afterPasses k).xkeyWork.goTo .pXsalt).iter + 1#32 = BitVec.ofNat 32 (k + 1) :=
    (BitVec.ofNat_add k 1).symm
  have hfits : (BitVec.ofNat 32 (k + 1)).toNat = k + 1 := by
    have := rounds_le hcost
    rw [BitVec.toNat_ofNat]
    omega
  rw [State.engineStep_derive_pXkey (s := a.afterPasses k) h.busy hd hphase,
    State.engineStep_derive_pXsalt (s := (a.afterPasses k).xkeyWork.goTo .pXsalt) h.busy hd rfl,
    State.countPass_eq, State.xsaltWork_eq, State.withCipher_iter, hcount, hfits, a.afterPasses_succ]
  rfl

/-- Two phases and then two for each pass take `DERIVE` to the end of pass `k` (41_key_schedule R125). -/
theorem State.HasAccepted.iterate_afterPasses {a : State} (h : a.HasAccepted .derive) {k : Nat} (hk : k ≤ rounds a.cost) :
    Nat.iterate State.engineStep (2 + 2 * k) a = a.afterPasses k := by
  induction k with
  | zero => exact h.afterPasses_zero
  | succ k ih =>
    rw [show 2 + 2 * (k + 1) = 2 + 2 * k + 1 + 1 by omega, Function.iterate_succ_apply', Function.iterate_succ_apply',
      ih (by omega), h.afterPasses_succ hk]

/-- The last phase of `DERIVE` completes what it does as one transition (41_key_schedule R124, R125). -/
theorem State.HasAccepted.engineStep_afterPasses {a : State} (h : a.HasAccepted .derive) :
    (a.afterPasses (rounds a.cost)).engineStep = (a.workOf .derive).finish := by
  rw [State.engineStep_derive_pMagic (s := a.afterPasses (rounds a.cost)) h.busy (decide_eq_true h.opc)
    (if_neg (Nat.lt_irrefl _)), State.workOf, State.deriveWork_eq, eksSetup_eq]
  rfl

/-- A command but `DERIVE` and `CLRERR` takes one engine step (41_key_schedule R125). -/
theorem engineSteps_eq_one {i : Instr} (hd : i ≠ .derive) (hc : i ≠ .clrerr) (s : State) : engineSteps i s = 1 := by
  cases i with
  | derive => exact absurd rfl hd
  | clrerr => exact absurd rfl hc
  | _ => rfl

/-- The last engine step of an accepted command finds the block busy, and completes what the command does as one transition
(41_key_schedule R125). -/
theorem State.HasAccepted.last_step {a : State} {i : Instr} (h : a.HasAccepted i) (hc : i ≠ .clrerr) :
    ∃ n, engineSteps i a = n + 1 ∧ (Nat.iterate State.engineStep n a).busy = true ∧
      Nat.iterate State.engineStep (n + 1) a = (a.workOf i).finish := by
  by_cases hd : i = .derive
  · subst hd
    have hpasses := h.iterate_afterPasses (le_refl (rounds a.cost))
    refine ⟨2 + 2 * rounds a.cost, by rw [engineSteps]; omega, ?_, ?_⟩
    · rw [hpasses]
      exact h.busy
    · rw [Function.iterate_succ_apply', hpasses, h.engineStep_afterPasses]
  · exact ⟨0, engineSteps_eq_one hd hc a, h.busy,
      State.engineStep_eq_finish_workOf h.busy h.opc (h.phase ▸ firstPhase_mem_phasesOf hc) hd⟩

/-- A block is busy exactly until the engine step that leaves it idle (41_key_schedule R125). -/
theorem State.busy_iterate_engineStep_iff {s : State} {n : Nat} (hlast : (Nat.iterate State.engineStep n s).busy = true)
    (hend : (Nat.iterate State.engineStep (n + 1) s).busy = false) (m : Nat) :
    (Nat.iterate State.engineStep m s).busy = true ↔ m < n + 1 := by
  have idle_after {j : Nat} (hj : (Nat.iterate State.engineStep j s).busy = false) (d : Nat) :
      (Nat.iterate State.engineStep (d + j) s).busy = false := by
    rw [Function.iterate_add_apply, State.iterate_engineStep_idle hj, hj]
  constructor
  · intro hm
    by_contra hge
    have hidle := idle_after hend (m - (n + 1))
    rw [Nat.sub_add_cancel (by omega), hm] at hidle
    exact Bool.noConfusion hidle
  · intro hlt
    by_contra hm
    have hidle := idle_after (by simpa using hm) (n - m)
    rw [Nat.sub_add_cancel (by omega), hlast] at hidle
    exact Bool.noConfusion hidle

/-- A command write leaves the cost and the schedule alone (10_state R25). -/
theorem State.start_frame (s : State) (i : Instr) :
    (s.start i).cost = s.cost ∧ (s.start i).pending = s.pending := by
  rcases s.start_cases i with
    ⟨_, e⟩ | ⟨_, _, e⟩ | ⟨_, _, e⟩ | ⟨_, _, _, _, e⟩ | ⟨_, _, _, _, _, e⟩ | ⟨_, _, _, _, e⟩ <;> rw [e]
  exacts [⟨rfl, rfl⟩, ⟨rfl, rfl⟩, ⟨rfl, rfl⟩, ⟨rfl, rfl⟩, ⟨rfl, rfl⟩, by split <;> exact ⟨rfl, rfl⟩]

/-- The number of engine steps depends on the cost only (41_key_schedule R125). -/
theorem engineSteps_congr {s t : State} (h : t.cost = s.cost) (i : Instr) : engineSteps i t = engineSteps i s := by
  cases i with
  | derive => rw [engineSteps, engineSteps, h]
  | _ => rfl

/-- A command with a phase that an idle block does not ignore and whose checks hold is accepted, and as one transition does
its work on the state that has accepted it (30_encoding R82). -/
theorem State.start_accepts {s : State} {i : Instr} (hr : i ≠ .zeroize → s.Ready) (hb : s.busy = false)
    (hp : precheck i s.newDraw = none) (hc : i ≠ .clrerr) :
    (s.start i).HasAccepted i ∧ exec i s = .next ((s.start i).workOf i).finish := by
  rcases s.start_cases i with
    ⟨h, _⟩ | ⟨_, h, _⟩ | ⟨_, rfl, e⟩ | ⟨_, _, hz, h, _⟩ | ⟨r, _, _, _, h, _⟩ | ⟨hr, _, hz, _, e⟩
  · simp [hb] at h
  · exact absurd h hc
  · rw [e]
    exact ⟨⟨rfl, rfl, rfl, by simp⟩, by simp [exec, execZeroize, State.offerZeroize, hb, State.workOf]⟩
  · exact absurd (hr hz).no_error h
  · simp [hp] at h
  · rw [e, exec_completes hc hz hr hp]
    by_cases hd : i = .derive
    · subst hd
      exact ⟨⟨rfl, rfl, rfl, fun _ => ⟨rfl, (cost_of_precheck hp).2⟩⟩, rfl⟩
    · rw [if_neg hd]
      exact ⟨⟨rfl, rfl, rfl, fun h => absurd h hd⟩, rfl⟩

/-- Settles O55: `CLRERR` is over with its write; every other command is busy until the step that completes it. -/
theorem engineStepCount : Obligations.EngineStepCount := by
  intro i s hr hb hp n
  by_cases hc : i = .clrerr
  · subst hc
    have e : s.start .clrerr = s.clearError := by simp [State.start, hb]
    rw [e, State.iterate_engineStep_idle (s := s.clearError) hb]
    simp [engineSteps, hb]
  · obtain ⟨haccepted, -⟩ := State.start_accepts hr hb hp hc
    obtain ⟨m, hsteps, hlast, hend⟩ := haccepted.last_step hc
    rw [← engineSteps_congr (s.start_frame i).1, hsteps]
    exact State.busy_iterate_engineStep_iff hlast (congrArg State.busy hend) n

/-- A command with a phase that is accepted does as one transition what its engine steps do (41_key_schedule R125). -/
theorem exec_eq_iterate_start_of_accepted {s : State} {i : Instr} (hr : i ≠ .zeroize → s.Ready) (hb : s.busy = false)
    (hp : precheck i s.newDraw = none) (hc : i ≠ .clrerr) :
    exec i s = .next (Nat.iterate State.engineStep (engineSteps i s) (s.start i)) := by
  obtain ⟨haccepted, he⟩ := State.start_accepts hr hb hp hc
  obtain ⟨n, hsteps, -, hend⟩ := haccepted.last_step hc
  rw [he, ← hend, ← hsteps, engineSteps_congr (s.start_frame i).1]

/-- On an idle block a command as one transition is its write and all its engine steps; `CLRERR` and a command that is
ignored or fails a check are over with the write (41_key_schedule R125). -/
theorem exec_eq_iterate_start {s : State} (hb : s.busy = false) (i : Instr) :
    exec i s = .next (Nat.iterate State.engineStep (engineSteps i s) (s.start i)) := by
  rcases s.start_cases i with
    ⟨h, _⟩ | ⟨_, rfl, e⟩ | ⟨_, rfl, _⟩ | ⟨_, hc, hz, h, e⟩ | ⟨r, hr, _, _, h, e⟩ | ⟨hr, hc, _, hp, _⟩
  · simp [hb] at h
  · rw [e, State.iterate_engineStep_idle (s := s.clearError) hb]
    simp [exec, execClrerr, hb]
  · exact exec_eq_iterate_start_of_accepted (by simp) hb (precheck_zeroize _) (by decide)
  · rw [e, State.iterate_engineStep_idle hb, s.exec_latched h hc hz]
  · rw [e, State.iterate_engineStep_idle (s := s.newDraw.raise (opcode i) r) hb, exec_raises hr h]
  · exact exec_eq_iterate_start_of_accepted (fun _ => hr) hb hp hc

/-- Settles O54: the first step accepts the command, and with nothing more scheduled the others are the engine's. -/
theorem stepwiseRunMatchesExec : Obligations.StepwiseRunMatchesExec := by
  intro s w i hb hw hstepwise hpending
  have hfirst : step s = .next (State.start { s with pending := [] } i) := by
    rw [step_of_pending_access s hpending, State.hostAccess_write_cmd, State.commandWrite, hw]
    simp [hstepwise]
  have hcost : engineSteps i s = engineSteps i { s with pending := [] } := engineSteps_congr rfl i
  rw [Nat.add_comm, runSteps_succ hfirst, runSteps_engine (State.start_frame _ i).2, hcost,
    exec_eq_iterate_start (s := { s with pending := [] }) hb i]

/-! ## The schedule driven by hand -/

/-- A command that answers is the first of a list of commands. -/
theorem runCommands_cons {i : Instr} {is : List Instr} {s t : State} (h : exec i s = .next t) :
    runCommands (i :: is) s = runCommands is t := by
  rw [runCommands, h]

/-- The commands before it answered, the rest of a list runs from the state they left. -/
theorem runCommands_append {is js : List Instr} {s t : State} (h : runCommands is s = .next t) :
    runCommands (is ++ js) s = runCommands js t := by
  induction is generalizing s with
  | nil => cases h; rfl
  | cons i is ih =>
    obtain ⟨s', e⟩ := exec_next i s
    rw [runCommands_cons e] at h
    rw [List.cons_append, runCommands_cons e, ih h]

/-- Block `s` in the course of a schedule driven by hand: cipher state `c` with `SV = 1`, after `n` commands, the latest with
opcode `op`; the operands and `ITER` are those of `s` (95_test_vectors PR2). -/
def State.handDriven (s : State) (c : Cipher) (op : Byte) (n : Nat) : State :=
  { s with
    cipher := c, cipherZeroed := false, sv := true
    opc := op, phase := .idle, busy := false, done := true, cmdDraws := s.cmdDraws + n }

/-- Between the commands of the schedule the block is idle, with no error latched. -/
theorem State.Ready.handDriven {s : State} (hr : s.Ready) (c : Cipher) (op : Byte) (n : Nat) :
    (s.handDriven c op n).Ready := ⟨rfl, hr.no_error⟩

/-- Between the commands of the schedule the key is as usable as at its beginning. -/
theorem State.KeyUsable.handDriven {s : State} (hk : s.KeyUsable) (c : Cipher) (op : Byte) (n : Nat) :
    (s.handDriven c op n).KeyUsable := ⟨hk.version, hk.not_empty, hk.not_long⟩

/-- Every command of the schedule sees the key of the block that it began on. -/
theorem State.keyBytes_handDriven {s : State} (hk : s.KeyUsable) (hw : s.OperandsWritten) (c : Cipher) (op : Byte)
    (n : Nat) : (s.handDriven c op n).newDraw.keyBytes = s.keyBytes :=
  State.keyBytes_eq_of_written hk hw ⟨hw.key, hw.salt⟩ rfl fun _ _ => rfl

/-- Every command of the schedule sees the salt of the block that it began on. -/
theorem State.saltBytes_handDriven {s : State} (hw : s.OperandsWritten) (c : Cipher) (op : Byte) (n : Nat) :
    (s.handDriven c op n).newDraw.saltBytes = s.saltBytes :=
  State.saltBytes_eq_of_written hw ⟨hw.key, hw.salt⟩ rfl

/-- `INIT` begins the schedule with the constants (40_cipher_core R103). -/
theorem exec_init_handDriven {s : State} (hr : s.Ready) :
    exec .init s = .next (s.handDriven Cipher.initial (opcode .init) 1) :=
  exec_completes (by decide) (by decide) hr (precheck_init s.newDraw)

section handDriven

variable {s : State} (hr : s.Ready) (hk : s.KeyUsable) (hw : s.OperandsWritten) (c : Cipher) (op : Byte) (n : Nat)

include hr

/-- `MAGIC` in the schedule writes the digest of the cipher state and leaves `SV` and `ITER` alone (41_key_schedule R123). -/
theorem exec_magic_handDriven : exec .magic (s.handDriven c op n) =
    .next ((s.handDriven c (opcode .magic) (n + 1)).withDigest (digestOf c)) :=
  exec_completes (by decide) (by decide) (hr.handDriven c op n) (precheck_sv (.inr (.inr rfl)) rfl)

include hw

/-- `XSALT` in the schedule expands with the salt that the schedule began with (40_cipher_core R105). -/
theorem exec_xsalt_handDriven : exec .xsalt (s.handDriven c op n) =
    .next (s.handDriven (expandKey noSalt .literal s.saltBytes c) (opcode .xsalt) (n + 1)) := by
  rw [exec_completes (by decide) (by decide) (hr.handDriven c op n) (precheck_sv (.inl rfl) rfl), State.workOf,
    State.xsaltWork_eq, State.accept_saltBytes, State.saltBytes_handDriven hw]
  rfl

include hk

/-- `XKEY` in the schedule expands with the key that the schedule began with (40_cipher_core R104). -/
theorem exec_xkey_handDriven : exec .xkey (s.handDriven c op n) =
    .next (s.handDriven (expandKey noSalt (keyModeOf s.version) s.keyBytes c) (opcode .xkey) (n + 1)) := by
  rw [exec_key_completes (.inl rfl) (hr.handDriven c op n) (hk.handDriven c op n) rfl, State.workOf,
    State.xkeyWork_eq, State.accept_keyBytes, State.keyBytes_handDriven hk hw]
  rfl

/-- `XEKS` in the schedule expands with the key and the salt that the schedule began with (40_cipher_core R106). -/
theorem exec_xeks_handDriven : exec .xeks (s.handDriven c op n) =
    .next (s.handDriven (expandKey (saltWords s.saltBytes) (keyModeOf s.version) s.keyBytes c) (opcode .xeks) (n + 1)) := by
  rw [exec_key_completes (.inr rfl) (hr.handDriven c op n) (hk.handDriven c op n) rfl, State.workOf,
    State.xeksWork_eq, State.accept_keyBytes, State.accept_saltBytes, State.keyBytes_handDriven hk hw,
    State.saltBytes_handDriven hw]
  rfl

/-- `k` times `XKEY`, `XSALT` are `k` passes of `EksSetup` (41_key_schedule R122). -/
theorem runCommands_passes (k : Nat) : ∃ op' n',
    runCommands (List.replicate k [Instr.xkey, .xsalt]).flatten (s.handDriven c op n) =
      .next (s.handDriven (Nat.iterate (eksPass (keyModeOf s.version) s.keyBytes s.saltBytes) k c) op' n') := by
  induction k generalizing c op n with
  | zero => exact ⟨op, n, rfl⟩
  | succ k ih =>
    obtain ⟨op', n', h⟩ := ih (eksPass (keyModeOf s.version) s.keyBytes s.saltBytes c) (opcode .xsalt) (n + 1 + 1)
    refine ⟨op', n', ?_⟩
    rw [List.replicate_succ, List.flatten_cons, List.cons_append, List.cons_append, List.nil_append,
      runCommands_cons (exec_xkey_handDriven hr hk hw c op n), runCommands_cons (exec_xsalt_handDriven hr hw _ _ _)]
    exact h

/-- The schedule driven by hand with `2^COST` passes ends with the digest of `EksSetup` and `SV = 1`, and leaves `ITER` alone
(95_test_vectors PR2). -/
theorem runCommands_handSchedule : ∃ u, runCommands (handSchedule (rounds s.cost)) s = .next u ∧
    u.digest = digestOf (eksSetup (keyModeOf s.version) s.keyBytes s.saltBytes s.cost) ∧
    u.sv = true ∧ u.iter = s.iter := by
  obtain ⟨op, n, hpasses⟩ := runCommands_passes hr hk hw
    (expandKey (saltWords s.saltBytes) (keyModeOf s.version) s.keyBytes Cipher.initial) (opcode .xeks) 2
    (rounds s.cost)
  rw [← eksSetup_eq] at hpasses
  have hbegin : runCommands [.init, .xeks] s = .next (s.handDriven
      (expandKey (saltWords s.saltBytes) (keyModeOf s.version) s.keyBytes Cipher.initial) (opcode .xeks) 2) := by
    rw [runCommands_cons (exec_init_handDriven hr), runCommands_cons (exec_xeks_handDriven hr hk hw _ _ _), runCommands]
  have hend : runCommands [.magic] (s.handDriven (eksSetup (keyModeOf s.version) s.keyBytes s.saltBytes s.cost) op n) =
      .next _ := runCommands_cons (exec_magic_handDriven hr _ op n)
  rw [← runCommands_append hpasses, ← runCommands_append hbegin, ← List.append_assoc] at hend
  exact ⟨_, hend, rfl, rfl, rfl⟩

end handDriven

/-- Settles O36: both ways make the passes of `EksSetup` on the same key and salt bytes. -/
theorem handDrivenScheduleMatchesDerive : Obligations.HandDrivenScheduleMatchesDerive := by
  intro s hr hk h4 h31 hw
  have hderive := exec_derive_completes hr hk h4 h31
  obtain ⟨hdigest, -⟩ := digest_iter_of_exec_derive hr hk h4 h31 hderive
  obtain ⟨u, hu, hud, hsv, hiter⟩ := runCommands_handSchedule hr hk hw
  have hkeyBytes : s.newDraw.keyBytes = s.keyBytes :=
    State.keyBytes_eq_of_written hk hw hw.newDraw rfl fun _ _ => rfl
  have hsaltBytes : s.newDraw.saltBytes = s.saltBytes := State.saltBytes_eq_of_written hw hw.newDraw rfl
  exact ⟨_, u, hderive, hu, by rw [hud, hdigest, hkeyBytes, hsaltBytes], hsv, hiter⟩

end Sys2Proof.Machine

/-! The radix-64 codec (42_radix64): the symbol scan, the length law, the two round trips, and what `R64ENC` and `R64DEC` do to
an idle block. -/

namespace Sys2Proof.Machine

/-! ## Symbols and their values -/

/-- The symbol of a value carries it (15_constants R55). -/
@[simp] theorem inv_alphabet (v : Sextet) : inv (alphabet v) = some v := (inv_eq_some_iff _ v).mpr rfl

/-- Different values have different symbols (15_constants R54). -/
theorem alphabet_injective : Function.Injective alphabet := fun v w h => by
  simpa using congrArg inv h

/-- The values of symbols written for values are those values. -/
@[simp] theorem filterMap_inv_map_alphabet (vs : List Sextet) : (vs.map alphabet).filterMap inv = vs := by
  simp [List.filterMap_map]

/-- Codes of the alphabet are the symbols of their values. -/
theorem map_alphabet_filterMap_inv {s : List Byte} (h : ∀ c ∈ s, (inv c).isSome = true) :
    (s.filterMap inv).map alphabet = s := by
  induction s with
  | nil => rfl
  | cons c cs ih =>
    obtain ⟨v, hv⟩ := Option.isSome_iff_exists.mp (h c (by simp))
    rw [List.filterMap_cons_some hv, List.map_cons, (inv_eq_some_iff c v).mp hv, ih fun d hd => h d (by simp [hd])]

/-- The padding character is not in the alphabet (42_radix64 R144). -/
theorem inv_padding : inv 0x3D#8 = none := by decide

/-- The encoder writes symbols of the alphabet (42_radix64 R140). -/
theorem isSome_inv_of_mem_r64Encode {x : List Byte} {c : Byte} (h : c ∈ r64Encode x) : (inv c).isSome = true := by
  obtain ⟨v, -, rfl⟩ := List.mem_map.mp h
  simp

/-! ## The decoder's checks -/

/-- The scan reports the lowest index at which a code is not in the alphabet (42_radix64 R141; 60_exceptions R202). -/
theorem firstBadSymbol_eq_some_iff {n k : Nat} {l : List Byte} :
    firstBadSymbol n l = some (n + k) ↔
      k < l.length ∧ l[k]?.bind inv = none ∧ ∀ j : Nat, j < k → (l[j]?.bind inv).isSome = true := by
  induction l generalizing n k with
  | nil => simp [firstBadSymbol]
  | cons c cs ih =>
    rw [firstBadSymbol]
    cases hc : inv c with
    | none =>
      cases k with
      | zero => simp [hc]
      | succ k =>
        have hnotGood : ¬ ∀ j < k + 1, ((c :: cs)[j]?.bind inv).isSome = true := fun hgood => by
          simpa [hc] using hgood 0 k.succ_pos
        exact iff_of_false (by simp) fun ⟨_, _, hgood⟩ => hnotGood hgood
    | some v =>
      cases k with
      | zero =>
        have hlater : firstBadSymbol (n + 1) cs ≠ some n := fun h => absurd (le_of_firstBadSymbol h) (by omega)
        simpa [hc] using hlater
      | succ k =>
        have hshift : n + (k + 1) = n + 1 + k := by omega
        have hbefore : (∀ j < k + 1, ((c :: cs)[j]?.bind inv).isSome = true) ↔
            ∀ j < k, (cs[j]?.bind inv).isSome = true := by
          rw [Nat.forall_lt_succ_left]
          simp [hc]
        rw [hbefore, hshift]
        simpa using ih

/-- The decoder answers bytes exactly for symbols of the alphabet without a final group of one (42_radix64 R141). -/
theorem r64Decode_eq_ok_iff {s x : List Byte} :
    r64Decode s = .ok x ↔ s.length % 4 ≠ 1 ∧ (∀ c ∈ s, (inv c).isSome = true) ∧ r64Bytes s = x := by
  rw [← firstBadSymbol_eq_none (n := 0)]
  rcases r64Decode_cases s with ⟨hlen, h⟩ | ⟨hlen, k, hk, h⟩ | ⟨hlen, hk, h⟩
  · simp [h, hlen]
  · simp [h, hk]
  · simp [h, hk, hlen]

/-- The decoder answers a truncated group exactly for a final group of one (42_radix64 R141). -/
theorem r64Decode_eq_truncatedGroup_iff {s : List Byte} {m : Nat} :
    r64Decode s = .error (.truncatedGroup m) ↔ s.length % 4 = 1 ∧ m = s.length := by
  rcases r64Decode_cases s with ⟨hlen, h⟩ | ⟨hlen, k, -, h⟩ | ⟨hlen, -, h⟩
  · simp [h, hlen, eq_comm]
  · simp [h, hlen]
  · simp [h, hlen]

/-- The decoder answers a bad symbol exactly when, the length being good, the scan finds one (42_radix64 R141). -/
theorem r64Decode_eq_symbol_iff {s : List Byte} {k : Nat} :
    r64Decode s = .error (.symbol k) ↔ s.length % 4 ≠ 1 ∧ firstBadSymbol 0 s = some k := by
  rcases r64Decode_cases s with ⟨hlen, h⟩ | ⟨hlen, i, hi, h⟩ | ⟨hlen, hn, h⟩
  · simp [h, hlen]
  · simp [h, hlen, hi]
  · simp [h, hn]

/-! ## The length law -/

/-- A symbol for every six bits of the bytes, and one for what is left of them (42_radix64 R144). -/
theorem length_r64Encode_eq (x : List Byte) : (r64Encode x).length = (4 * x.length + 2) / 3 := by
  rw [length_r64Encode, length_groupValues]
  split <;> omega

/-- Symbols of the alphabet give six bits each, and every whole byte of them is put out (42_radix64 R144). -/
theorem length_r64Bytes {s : List Byte} (h : ∀ c ∈ s, (inv c).isSome = true) :
    (r64Bytes s).length = 6 * s.length / 8 := by
  rw [r64Bytes, length_decodeBits _ _ _ (by decide), length_filterMap_inv h, Nat.zero_add]

/-- Settles O38: the lengths from those of the values and of the accumulator's output. -/
theorem radixLengthLaw : Obligations.RadixLengthLaw := by
  refine ⟨fun x q => ?_, fun s x q h => ?_, fun s q h => r64Decode_eq_truncatedGroup_iff.mpr ⟨by omega, rfl⟩,
    fun x c hc => ⟨isSome_inv_of_mem_r64Encode hc, ?_⟩⟩
  · rw [length_r64Encode_eq]
    omega
  · obtain ⟨hlen, hs, rfl⟩ := r64Decode_eq_ok_iff.mp h
    rw [length_r64Bytes hs]
    omega
  · rintro rfl
    simpa [inv_padding] using isSome_inv_of_mem_r64Encode hc

/-! ## Decoding group by group -/

/-- Induction over the groups of values: whole groups of four in front of a last group of none to three (30_encoding R89). -/
theorem sextetGroups_induction {motive : List Sextet → Prop} (nil : motive []) (one : ∀ v0, motive [v0])
    (two : ∀ v0 v1, motive [v0, v1]) (three : ∀ v0 v1 v2, motive [v0, v1, v2])
    (cons_four : ∀ v0 v1 v2 v3 rest, motive rest → motive (v0 :: v1 :: v2 :: v3 :: rest)) : ∀ vs, motive vs
  | [] => nil
  | [v0] => one v0
  | [v0, v1] => two v0 v1
  | [v0, v1, v2] => three v0 v1 v2
  | v0 :: v1 :: v2 :: v3 :: rest =>
    cons_four v0 v1 v2 v3 rest (sextetGroups_induction nil one two three cons_four rest)

/-- With no bit left over, what the accumulator holds does not matter (42_radix64 R141). -/
theorem decodeBits_acc_irrelevant (acc acc' : BitVec 12) (vs : List Sextet) :
    decodeBits acc 0 vs = decodeBits acc' 0 vs := by
  induction vs using sextetGroups_induction generalizing acc acc' with
  | nil => rfl
  | one v0 => simp [decodeBits_cons_zero]
  | two v0 v1 => simp only [decodeBits_two]
  | three v0 v1 v2 => simp only [decodeBits_three]
  | cons_four v0 v1 v2 v3 rest ih =>
    obtain ⟨a, ha⟩ := decodeBits_cons_four acc v0 v1 v2 v3 rest
    obtain ⟨b, hb⟩ := decodeBits_cons_four acc' v0 v1 v2 v3 rest
    rw [ha, hb, ih a b]

/-- A group of four values gives its three bytes, and the rest is decoded as from the start (42_radix64 R141). -/
theorem decodeBits_group (acc : BitVec 12) (v0 v1 v2 v3 : Sextet) (rest : List Sextet) :
    decodeBits acc 0 (v0 :: v1 :: v2 :: v3 :: rest) =
      [v0 ++ v1.extractLsb' 4 2, v1.extractLsb' 0 4 ++ v2.extractLsb' 2 4, v2.extractLsb' 0 2 ++ v3] ++
        decodeBits acc 0 rest := by
  obtain ⟨acc', h⟩ := decodeBits_cons_four acc v0 v1 v2 v3 rest
  rw [h, decodeBits_acc_irrelevant acc' acc]

/-- Settles O40: the outcomes are the branches of `R64Decode`, and the bytes come out of the accumulator group by group. -/
theorem decoderReportsLowestBadSymbol : Obligations.DecoderReportsLowestBadSymbol := by
  refine ⟨fun s => ⟨fun m => r64Decode_eq_truncatedGroup_iff, fun k => ?_,
    fun hlen hs => r64Decode_eq_ok_iff.mpr ⟨hlen, hs, rfl⟩⟩, rfl,
    fun c0 c1 c2 c3 v0 v1 v2 v3 rest h0 h1 h2 h3 => ⟨?_, ?_, ?_⟩⟩
  · have hscan := firstBadSymbol_eq_some_iff (n := 0) (k := k) (l := s)
    rw [Nat.zero_add] at hscan
    rw [r64Decode_eq_symbol_iff, hscan]
  · simp only [r64Bytes, List.filterMap_cons, h0, h1, h2, h3, decodeBits_group]
  · simp only [r64Bytes, List.filterMap_cons, List.filterMap_nil, h0, h1, h2, decodeBits_three]
  · simp only [r64Bytes, List.filterMap_cons, List.filterMap_nil, h0, h1, decodeBits_two]

/-! ## The round trips -/

/-- Two fields written one after the other read back, the widths as arguments: `simp` does not find them from literals. -/
theorem extractLsb'_append_fields (m n : Nat) (hi : BitVec m) (lo : BitVec n) :
    (hi ++ lo).extractLsb' n m = hi ∧ (hi ++ lo).extractLsb' 0 n = lo :=
  ⟨BitVec.extractLsb'_append_eq_left, BitVec.extractLsb'_append_eq_right⟩

/-- The upper and the lower field one after the other are the word, the widths as arguments again. -/
theorem append_fields_eq (m n : Nat) (x : BitVec (m + n)) : x.extractLsb' n m ++ x.extractLsb' 0 n = x :=
  BitVec.extractLsb'_append_extractLsb'

/-- Filling zeros in below the upper field gives the word back exactly when its lower field is zero. -/
theorem append_zero_eq_iff (m n : Nat) (x : BitVec (m + n)) :
    x.extractLsb' n m ++ 0#n = x ↔ x.extractLsb' 0 n = 0#n := by
  constructor
  · intro h
    rw [← h, BitVec.extractLsb'_append_eq_right]
  · intro h
    rw [← h, BitVec.extractLsb'_append_extractLsb']

/-- Putting out the values of raw bytes gives the raw bytes back (42_radix64 R145). -/
theorem decodeBits_groupValues (acc : BitVec 12) (x : List Byte) : decodeBits acc 0 (groupValues x) = x := by
  induction x using groupValues.induct with
  | case1 => rfl
  | case2 b0 => simp [groupValues_one, decodeBits_two, extractLsb'_append_fields 2 4, append_fields_eq 6 2]
  | case3 b0 b1 =>
    simp [groupValues_two, decodeBits_three, extractLsb'_append_fields 2 4, extractLsb'_append_fields 4 2,
      append_fields_eq 6 2, append_fields_eq 4 4]
  | case4 b0 b1 b2 rest ih =>
    simp [groupValues_cons_three, decodeBits_group, extractLsb'_append_fields 2 4, extractLsb'_append_fields 4 2,
      append_fields_eq 6 2, append_fields_eq 4 4, append_fields_eq 2 6, ih]

/-- A whole group in front does not bear on the discarded bits (42_radix64 R141). -/
theorem discardedZero_cons_four (c0 c1 c2 c3 : Byte) (rest : List Byte) :
    discardedZero (c0 :: c1 :: c2 :: c3 :: rest) = discardedZero rest := by
  cases rest with
  | nil => simp [discardedZero]
  | cons c rest =>
    have hlen : (c0 :: c1 :: c2 :: c3 :: c :: rest).length % 4 = (c :: rest).length % 4 := Nat.add_mod_right _ 4
    have hlast : (c0 :: c1 :: c2 :: c3 :: c :: rest).getLast? = (c :: rest).getLast? := by
      simp only [List.getLast?_cons_cons]
    rw [discardedZero, hlen, hlast, discardedZero]

/-- Cutting the bytes of values into values gives these values back exactly when the discarded bits are zero (42_radix64
R145). -/
theorem groupValues_decodeBits_iff (acc : BitVec 12) {vs : List Sextet} (hlen : vs.length % 4 ≠ 1) :
    groupValues (decodeBits acc 0 vs) = vs ↔ discardedZero (vs.map alphabet) = true := by
  induction vs using sextetGroups_induction with
  | nil => exact iff_of_true rfl rfl
  | one v0 => exact absurd rfl hlen
  | two v0 v1 =>
    simp [decodeBits_two, groupValues_one, extractLsb'_append_fields 6 2, append_zero_eq_iff 2 4, discardedZero]
  | three v0 v1 v2 =>
    simp [decodeBits_three, groupValues_two, extractLsb'_append_fields 6 2, extractLsb'_append_fields 4 4,
      append_fields_eq 2 4, append_zero_eq_iff 4 2, discardedZero]
  | cons_four v0 v1 v2 v3 rest ih =>
    simp [decodeBits_group, groupValues_cons_three, extractLsb'_append_fields 6 2, extractLsb'_append_fields 4 4,
      extractLsb'_append_fields 2 6, append_fields_eq 2 4, append_fields_eq 4 2, discardedZero_cons_four,
      ih (by simpa [Nat.add_assoc] using hlen)]

/-- Decoding what the encoder gives returns the bytes (42_radix64 R145). -/
theorem r64Decode_r64Encode (x : List Byte) : r64Decode (r64Encode x) = .ok x := by
  refine r64Decode_eq_ok_iff.mpr ⟨?_, fun c => isSome_inv_of_mem_r64Encode, ?_⟩
  · rw [length_r64Encode_eq]
    omega
  · rw [r64Bytes, r64Encode, filterMap_inv_map_alphabet, decodeBits_groupValues]

/-- Encoding what the decoder gives returns the symbols exactly when the discarded bits are zero (42_radix64 R145). -/
theorem r64Encode_eq_iff_discardedZero {s x : List Byte} (h : r64Decode s = .ok x) :
    r64Encode x = s ↔ discardedZero s = true := by
  obtain ⟨hlen, hs, rfl⟩ := r64Decode_eq_ok_iff.mp h
  obtain ⟨vs, rfl⟩ : ∃ vs : List Sextet, vs.map alphabet = s := ⟨_, map_alphabet_filterMap_inv hs⟩
  rw [List.length_map] at hlen
  rw [r64Encode, r64Bytes, filterMap_inv_map_alphabet, alphabet_injective.list_map.eq_iff,
    groupValues_decodeBits_iff _ hlen]

/-- Settles O39: the strings that the encoder produces decode to what they were made from, so the third part follows from the
other two. -/
theorem radixRoundTrip : Obligations.RadixRoundTrip := by
  refine ⟨r64Decode_r64Encode, fun s x => r64Encode_eq_iff_discardedZero, fun s => ⟨?_, ?_⟩⟩
  · rintro ⟨x, rfl⟩
    have hdecode := r64Decode_r64Encode x
    exact ⟨⟨x, hdecode⟩, (r64Encode_eq_iff_discardedZero hdecode).mp rfl⟩
  · rintro ⟨⟨x, hdecode⟩, hzero⟩
    exact ⟨x, (r64Encode_eq_iff_discardedZero hdecode).mpr hzero⟩

/-! ## The commands -/

/-- `R64ENC` refuses more raw bytes than the buffer holds (60_exceptions R206). -/
theorem precheck_r64enc_of_long {s : State} (h : 48 < s.rawlen.toNat) :
    precheck .r64enc s = some ⟨.capacity, 1#8, s.rawlen.setWidth 16⟩ := by
  have hlong : 48#8 < s.rawlen := by simpa [BitVec.lt_def] using h
  simp [precheck, readsKey, readsCipher, hlong]

/-- The checks of `R64DEC` once the symbols are within the buffer: the length, then the scan (60_exceptions R211 orders 11
and 12). -/
theorem precheck_r64dec_of_le {s : State} (h : s.symlen.toNat ≤ 64) :
    precheck .r64dec s =
      if s.symlen.toNat % 4 = 1 then some ⟨.format, 2#8, s.symlen.setWidth 16⟩
      else (firstBadSymbol 0 s.symBytes).map fun index => ⟨.format, 1#8, BitVec.ofNat 16 index⟩ := by
  have hshort : ¬ 64#8 < s.symlen := by simpa [BitVec.lt_def] using h
  simp [precheck, readsKey, readsCipher, hshort]

/-- An `R64DEC` that passes its checks found symbols of the alphabet, within the buffer (42_radix64 R143). -/
theorem symbols_of_precheck_r64dec {s : State} (h : precheck .r64dec s = none) :
    s.symlen.toNat ≤ 64 ∧ ∀ c ∈ s.symBytes, (inv c).isSome = true := by
  by_cases hshort : s.symlen.toNat ≤ 64
  · rw [precheck_r64dec_of_le hshort] at h
    split at h
    · cases h
    · exact ⟨hshort, firstBadSymbol_eq_none.mp (Option.map_eq_none_iff.mp h)⟩
  · have hlong : 64#8 < s.symlen := by simpa [BitVec.lt_def] using hshort
    simp [precheck, readsKey, readsCipher, hlong] at h

/-- `RAWLEN` raw bytes are encoded (10_state R29). -/
@[simp] theorem State.length_rawBytes (s : State) : s.rawBytes.length = s.rawlen.toNat := Buffer.length_take ..

/-- `SYMLEN` symbols are decoded (10_state R30). -/
@[simp] theorem State.length_symBytes (s : State) : s.symBytes.length = s.symlen.toNat := Buffer.length_take ..

/-- `R64ENC` with its raw bytes within the buffer does its work (42_radix64 R142). -/
theorem exec_r64enc_completes {s : State} (hr : s.Ready) (h : s.rawlen.toNat ≤ 48) :
    exec .r64enc s = .next ((s.newDraw.accept .r64enc).withSymbols (r64Encode s.newDraw.rawBytes)).finish :=
  exec_completes (by decide) (by decide) hr (precheck_r64enc (s := s.newDraw) h)

/-- `R64DEC` that passes its checks does its work (42_radix64 R143). -/
theorem exec_r64dec_completes {s : State} (hr : s.Ready) (hp : precheck .r64dec s.newDraw = none) :
    exec .r64dec s = .next ((s.newDraw.accept .r64dec).withRawBytes (r64Bytes s.newDraw.symBytes)).finish :=
  exec_completes (by decide) (by decide) hr hp

/-- Settles O13: the check of `R64ENC` holds or fails, and its work is to write the symbols. -/
theorem r64encWritesTheSymbols : Obligations.R64encWritesTheSymbols :=
  ⟨rfl, fun _ hr => ⟨exec_r64enc_completes hr, fun h => exec_raises hr (precheck_r64enc_of_long h)⟩⟩

/-- Settles O14: the checks of `R64DEC` hold, which are those of `R64Decode`. -/
theorem r64decWritesTheBytes : Obligations.R64decWritesTheBytes := by
  intro s hr h64 hlen hs
  have hp : precheck .r64dec s.newDraw = none := precheck_r64dec h64 hlen (firstBadSymbol_eq_none.mpr hs)
  exact ⟨_, r64Decode_eq_ok_iff.mpr ⟨by simpa using hlen, hs, rfl⟩, exec_r64dec_completes hr hp⟩

/-- Settles O22: the check of the length fails, or it holds and the scan reports the lowest bad symbol. -/
theorem badSymbolsRaiseFormat : Obligations.BadSymbolsRaiseFormat := by
  intro s hr h64
  have hchecks := precheck_r64dec_of_le (s := s.newDraw) h64
  split
  case isTrue hlen => exact exec_raises hr (hchecks.trans (if_pos hlen))
  case isFalse hlen =>
    intro k hk hbad hgood
    have hscan : firstBadSymbol 0 s.newDraw.symBytes = some (0 + k) :=
      firstBadSymbol_eq_some_iff.mpr ⟨by simpa using hk, hbad, hgood⟩
    have hp : precheck .r64dec s.newDraw = some ⟨.format, 1#8, BitVec.ofNat 16 k⟩ := by
      rw [hchecks, if_neg (by simpa using hlen), hscan, Nat.zero_add, Option.map_some]
    exact exec_raises hr hp

/-- Bytes written from the start of a buffer that they fit, counted in a length register: those below the count read back,
those from it on read as before (42_radix64 R142, R143). -/
theorem Buffer.read_putFrom_counted {n : Nat} (buf : Buffer n) {bs : List Byte} (hfit : bs.length ≤ n) (hn : n < 256)
    {j : Nat} (hj : j < n) :
    (BitVec.ofNat 8 bs.length).toNat = bs.length ∧
    ∀ free, (buf.putFrom 0 bs).read free j =
      if j < (BitVec.ofNat 8 bs.length).toNat then bs.getD j 0#8 else buf.read free j := by
  have hcount : (BitVec.ofNat 8 bs.length).toNat = bs.length :=
    (BitVec.toNat_ofNat ..).trans (Nat.mod_eq_of_lt (by omega))
  exact ⟨hcount, fun free => by simp [hcount, Buffer.read_putFrom, hj]⟩

/-- What is encoded from a full raw buffer fits the symbol buffer (42_radix64 R144). -/
theorem length_r64Encode_le {x : List Byte} (h : x.length ≤ 48) : (r64Encode x).length ≤ 64 := by
  rw [length_r64Encode_eq]
  omega

/-- What is decoded from a full symbol buffer fits the raw buffer (42_radix64 R144). -/
theorem length_r64Bytes_le {s : List Byte} (hs : ∀ c ∈ s, (inv c).isSome = true) (h : s.length ≤ 64) :
    (r64Bytes s).length ≤ 48 := by
  rw [length_r64Bytes hs]
  omega

/-- An `R64DEC` that ends with no error latched passed its checks (60_exceptions R210). -/
theorem precheck_of_exec_r64dec {s t : State} (hr : s.Ready) (he : t.err = .noError) (h : exec .r64dec s = .next t) :
    precheck .r64dec s.newDraw = none := by
  cases hp : precheck .r64dec s.newDraw with
  | none => rfl
  | some r =>
    rw [exec_raises hr hp] at h
    cases h
    exact absurd he (precheck_code_ne hp)

/-- Settles O42: the commands write what fits the buffer, from its start, and count it in the length register. -/
theorem codecKeepsBytesBeyondLength : Obligations.CodecKeepsBytesBeyondLength := by
  intro s t hr
  refine ⟨fun hlen h j hj => ?_, fun he h j hj => ?_⟩
  · rw [exec_r64enc_completes hr hlen] at h
    cases h
    exact s.sym.read_putFrom_counted (length_r64Encode_le (by simpa using hlen)) (by decide) hj
  · have hp := precheck_of_exec_r64dec hr he h
    obtain ⟨h64, hs⟩ := symbols_of_precheck_r64dec hp
    rw [exec_r64dec_completes hr hp] at h
    cases h
    exact s.raw.read_putFrom_counted (length_r64Bytes_le hs (by simpa using h64)) (by decide) hj

end Sys2Proof.Machine

/-! The system commands (43_system): `CLRERR` clears the error latch at the write, `ZEROIZE` erases the block, and what the host
reads of a block that `ZEROIZE` has erased. -/

namespace Sys2Proof.Machine

/-! ## `CLRERR` -/

/-- On an idle block `CLRERR` clears the latch, whether or not there is an error in it (43_system R160). -/
theorem exec_clrerr_of_idle {s : State} (hb : s.busy = false) : exec .clrerr s = .next s.clearError := by
  rw [exec, execClrerr, if_neg (by simp [hb])]

/-- In a stepwise machine `CLRERR` is no less complete at the write: it has no phase (43_system R160). -/
theorem State.start_clrerr_of_idle {s : State} (hb : s.busy = false) : s.start .clrerr = s.clearError := by
  rw [State.start, if_neg (by simp [hb])]

/-- A write of a command's word to `CMD` starts the command in a stepwise machine and performs it in the other
(30_encoding R82). -/
theorem State.commandWrite_encode (s : State) (i : Instr) :
    s.commandWrite (encode i) = if s.stepwise then .next (s.start i) else exec i s := by
  rw [State.commandWrite, decode_encode]

/-- Settles O15: the write of the command's word does what the command does, and the two granularities agree on it. -/
theorem clrerrClearsTheLatch : Obligations.ClrerrClearsTheLatch := by
  refine ⟨rfl, fun s hb => ⟨exec_clrerr_of_idle hb, ?_⟩⟩
  have hwrite : s.commandWrite (encode .clrerr) = .next s.clearError := by
    rw [s.commandWrite_encode, State.start_clrerr_of_idle hb, exec_clrerr_of_idle hb, ite_self]
  exact hwrite

/-! ## `ZEROIZE` -/

/-- The block after `ZEROIZE`: the command accepted, its one phase performed, and finished (43_system R161). -/
def State.zeroized (s : State) : State := (s.newDraw.accept .zeroize).zeroizeWork.finish

/-- On an idle block `ZEROIZE` is performed, whether or not an error is latched (43_system R161): the phase erases the latch
too, so it does not matter that the acceptance has cleared it. -/
theorem exec_zeroize_of_idle {s : State} (hb : s.busy = false) : exec .zeroize s = .next s.zeroized := by
  rcases s.offerZeroize_cases (fun s => s.zeroizeWork.finish) with ⟨hbusy, _⟩ | ⟨_, h⟩
  · simp [hb] at hbusy
  · exact congrArg Host.Outcome.next h

/-- Settles O16: a busy block ignores the command, and no field of the block but the model's own stays in an idle one. -/
theorem zeroizeErasesEverything : Obligations.ZeroizeErasesEverything :=
  ⟨rfl, fun s hb => s.exec_busy hb .zeroize, fun _ hb => exec_zeroize_of_idle hb⟩

/-! ## What the host reads after `ZEROIZE` -/

/-- Every word inside a zeroized buffer reads 0 (43_system R161). -/
theorem Buffer.word_zeroed {n : Nat} (free : Word) {w : Nat} (h : 4 * w + 3 < n) : (Buffer.zeroed n).word free w = 0#32 := by
  have hbyte (k : Nat) (hk : k < 4) : (Buffer.zeroed n).read (fun _ => wordByte free k) (4 * w + k) = 0#8 :=
    Buffer.read_zeroed _ (by omega)
  simp only [Buffer.word, hbyte 0 (by decide), hbyte 1 (by decide), hbyte 2 (by decide), hbyte 3 (by decide)]
  decide

/-- `STATUS` after `ZEROIZE`: `DONE` alone (43_system R161). -/
theorem State.statusWord_zeroized (s : State) : s.zeroized.statusWord = 0x00000002#32 := by
  simp [State.statusWord, State.zeroized, ErrCode.code]

/-- `SEQ` after `ZEROIZE`: its opcode, phase `IDLE` (43_system R161). -/
theorem State.seqWord_zeroized (s : State) : s.zeroized.seqWord = 0x00002100#32 := by
  simp [State.seqWord, State.zeroized, opcode, Phase.code]

/-- Every digest word after `ZEROIZE` is 0: the 23 bytes are those that a reset leaves (43_system R161). -/
theorem State.digestWord_zeroized (s : State) (w : Nat) : s.zeroized.digestWord w = 0#32 := s.digestWord_resetBlock w

/-- Every subkey of the zero cipher state is 0 (43_system R161). -/
theorem Cipher.getElem_p_zero (i : Fin 18) : Cipher.zero.p[i] = 0#32 := by simp [Cipher.zero]

/-- Every table word of the zero cipher state is 0 (43_system R161). -/
theorem Cipher.getElem_s_zero (b : Fin 4) (i : Fin 256) : Cipher.zero.s[b][i] = 0#32 := by simp [Cipher.zero]

/-- Settles O50, register by register: the buffers and the cipher state hold written zeros, so no read of them is free. -/
theorem zeroizedBlockReadsZero : Obligations.ZeroizedBlockReadsZero := by
  intro s t hb h
  rw [exec_zeroize_of_idle hb] at h
  cases h
  have hread (r : Reg) : s.zeroized.readReg r = s.zeroized.regValue r := s.zeroized.readReg_idle rfl r
  refine ⟨(hread .status).trans s.statusWord_zeroized, (hread .seq).trans s.seqWord_zeroized, fun r hstatus hseq => ?_⟩
  rw [hread]
  cases r with
  | status => exact absurd rfl hstatus
  | seq => exact absurd rfl hseq
  | saltw w => exact Buffer.word_zeroed _ (by omega)
  | keyw w => exact Buffer.word_zeroed _ (by omega)
  | raww w => exact Buffer.word_zeroed _ (by omega)
  | symw w => exact Buffer.word_zeroed _ (by omega)
  | digestw w => exact s.digestWord_zeroized w
  | p i => exact Cipher.getElem_p_zero i
  | s b i => exact Cipher.getElem_s_zero b i
  | _ => rfl

end Sys2Proof.Machine

/-! The exceptions family (60_exceptions): what the checks report of a bad key length, cost or buffer length and of an invalid
cipher state, that a failing write changes nothing else, and that a latched error stays until it is cleared. -/

namespace Sys2Proof.Machine

/-! ## A failing write to `CMD` -/

/-- Bits 31:24 of `ERRINFO` are the subcode (60_exceptions R200). -/
theorem errinfoWord_subcode (subcode op : Byte) (detail : BitVec 16) :
    (errinfoWord subcode op detail).extractLsb' 24 8 = subcode := by
  ext i hi
  have hop : op.getLsbD (24 + i - 16) = false := op.getLsbD_of_ge _ (by omega)
  have hdetail : detail.getLsbD (24 + i) = false := detail.getLsbD_of_ge _ (by omega)
  have hsub : subcode.getLsbD i = subcode[i] := BitVec.getLsbD_eq_getElem hi
  have hi32 : 24 + i < 32 := by omega
  simp [errinfoWord, hop, hdetail, hsub, hi32]

/-- The word of a command carries its opcode (30_encoding R80). -/
theorem opcField_encode (i : Instr) : opcField (encode i) = opcode i := by
  obtain ⟨-, hopc, -⟩ := encoding_statement i
  exact hopc

/-- A command performed whole that ends with an error on a ready block failed one of its checks, and took that error and did
nothing else (60_exceptions R210). -/
theorem raised_of_exec {i : Instr} {s t : State} (hr : s.Ready) (h : exec i s = .next t) (he : t.err ≠ .noError) :
    ∃ r, precheck i s.newDraw = some r ∧ t = s.newDraw.raise (opcode i) r := by
  cases hp : precheck i s.newDraw with
  | some r => exact ⟨r, rfl, Host.Outcome.next.inj (h.symm.trans (exec_raises hr hp))⟩
  | none =>
    refine absurd ?_ he
    by_cases hc : i = .clrerr
    · subst hc
      cases h.symm.trans (exec_clrerr_of_idle hr.idle)
      rfl
    by_cases hz : i = .zeroize
    · subst hz
      cases h.symm.trans (exec_zeroize_of_idle hr.idle)
      rfl
    cases h.symm.trans (exec_completes hc hz hr hp)
    exact State.workOf_err (s := s.newDraw.accept i) hr.no_error i

/-- The same of a command that a stepwise machine only accepts (60_exceptions R210). -/
theorem State.raised_of_start {i : Instr} {s : State} (hr : s.Ready) (he : (s.start i).err ≠ .noError) :
    ∃ r, s.start i = s.newDraw.raise (opcode i) r := by
  rcases s.start_cases i with
    ⟨hb, _⟩ | ⟨_, _, e⟩ | ⟨_, _, e⟩ | ⟨_, _, _, hlatched, _⟩ | ⟨r, _, _, _, _, e⟩ | ⟨_, _, _, _, e⟩
  · simp [hr.idle] at hb
  · exact absurd (by rw [e]; rfl) he
  · exact absurd (by rw [e]) he
  · exact absurd hr.no_error hlatched
  · exact ⟨r, e⟩
  · have hnone : (s.start i).err = .noError := by rw [e]; split <;> exact hr.no_error
    exact absurd hnone he

/-- A write to `CMD` of a ready block that ends with an error has taken that error with the opcode byte of the word, and done
nothing else, in either granularity and whether or not the word is a command's (60_exceptions R210). -/
theorem State.raised_of_commandWrite {w : Word} {s t : State} (hr : s.Ready) (h : s.commandWrite w = .next t)
    (he : t.err ≠ .noError) : ∃ r, t = s.newDraw.raise (opcField w) r := by
  rcases State.commandWrite_cases h with ⟨i, hd, _, rfl⟩ | ⟨i, hd, _, hexec⟩ | ⟨e, _, rfl⟩
  · rw [eq_encode_of_decode hd, opcField_encode]
    exact State.raised_of_start hr he
  · obtain ⟨r, _, ht⟩ := raised_of_exec hr hexec he
    rw [eq_encode_of_decode hd, opcField_encode]
    exact ⟨r, ht⟩
  · rcases s.illegalCommand_cases w e with ⟨hn, _⟩ | ⟨_, r, _, ht⟩
    · exact absurd hr hn
    · exact ⟨r, ht⟩

/-- Settles O23: the write has taken an error, whose `ERRINFO` holds the low byte of the word as its opcode byte. -/
theorem errorsArePrecise : Obligations.ErrorsArePrecise := by
  intro w s t hr h he
  obtain ⟨r, rfl⟩ := State.raised_of_commandWrite hr h he
  have hop : (opcField w).setWidth 32 = w &&& 0xFF#32 := by
    rw [opcField_eq_setWidth]
    exact setWidth_setWidth_eq_and w (by decide)
  refine ⟨r.subcode, r.detail, ?_⟩
  rw [← hop]
  rfl

/-! ## The latch -/

/-- While an error is latched a write to `CMD` is ignored unless it is the word of `CLRERR` or of `ZEROIZE` (60_exceptions
R212). -/
theorem State.commandWrite_latched {s : State} (he : s.err ≠ .noError) {w : Word} (hc : w ≠ encode .clrerr)
    (hz : w ≠ encode .zeroize) : s.commandWrite w = .next s := by
  cases hd : decode w with
  | ok i =>
    obtain rfl := eq_encode_of_decode hd
    have hi : i ≠ .clrerr := fun h => hc (congrArg encode h)
    have hi' : i ≠ .zeroize := fun h => hz (congrArg encode h)
    rw [s.commandWrite_encode, s.start_latched he hi hi', s.exec_latched he hi hi', ite_self]
  | error e =>
    rw [s.commandWrite_error hd]
    rcases s.illegalCommand_cases w e with ⟨_, h⟩ | ⟨hr, _⟩
    · rw [h]
    · exact absurd hr.no_error he

/-- On an idle block a write of `CLRERR` or `ZEROIZE` ends with no error latched, in either granularity: a stepwise machine
clears the latch when it accepts `ZEROIZE` (43_system R160, R161; log 9). -/
theorem State.commandWrite_unlatches {s : State} (hb : s.busy = false) {i : Instr} (hi : i = .clrerr ∨ i = .zeroize) :
    ∃ t, s.commandWrite (encode i) = .next t ∧ t.err = .noError ∧ t.errinfo = 0#32 := by
  rw [s.commandWrite_encode]
  rcases hi with rfl | rfl
  · rw [State.start_clrerr_of_idle hb, exec_clrerr_of_idle hb, ite_self]
    exact ⟨_, rfl, rfl, rfl⟩
  · split
    · rcases s.offerZeroize_cases id with ⟨hbusy, _⟩ | ⟨_, h⟩
      · simp [hb] at hbusy
      · exact ⟨_, congrArg Host.Outcome.next h, rfl, rfl⟩
    · exact ⟨_, exec_zeroize_of_idle hb, rfl, rfl⟩

/-- Settles O24: the two words are those of `CLRERR` and `ZEROIZE`; register writes look at `BUSY` only. -/
theorem latchedErrorIgnoresCommands : Obligations.LatchedErrorIgnoresCommands := by
  intro s w hb he
  refine ⟨State.commandWrite_latched he, ?_, s.hostWrite_idle hb⟩
  rintro (rfl | rfl)
  · exact State.commandWrite_unlatches hb (i := .clrerr) (.inl rfl)
  · exact State.commandWrite_unlatches hb (i := .zeroize) (.inr rfl)

/-- Settles O25, event by event: the engine of a block with an error latched is idle, and of its transactions only a write to
`CMD` can reach the latch. -/
theorem onlyClearingCommandsUnlatch : Obligations.OnlyClearingCommandsUnlatch := by
  intro s t hinv he h
  obtain ⟨hb, _⟩ := hinv.err_idle he
  rcases step_cases h with ⟨_, rfl⟩ | ⟨rest, _, rfl⟩ | ⟨rest, hp, _⟩ | ⟨a, rest, hp, ha⟩
  · rw [State.engineStep_idle hb]
    exact .inl ⟨rfl, rfl⟩
  · rw [State.engineStep_idle (s := { s with pending := rest }) hb]
    exact .inl ⟨rfl, rfl⟩
  · exact .inr (.inl ⟨rest, hp⟩)
  · rcases State.hostAccess_cases ha with ⟨off, _, _, _, rfl⟩ | ⟨w, rfl, hw⟩ | ⟨off, v, _, _, _, _, rfl⟩
    · exact .inl ⟨rfl, rfl⟩
    · by_cases hc : w = 0x00000020#32
      · exact .inr (.inr (.inl ⟨rest, hc ▸ hp⟩))
      by_cases hz : w = 0x00000021#32
      · exact .inr (.inr (.inr ⟨rest, hz ▸ hp⟩))
      cases hw.symm.trans (State.commandWrite_latched (s := { s with pending := rest }) he hc hz)
      exact .inl ⟨rfl, rfl⟩
    · obtain ⟨_, _, _, _, _, herr, herrinfo, _⟩ := State.hostWrite_frame { s with pending := rest } (regOf off) v
      exact .inl ⟨herr, herrinfo⟩

/-! ## The checks of the cipher state, the key and the cost -/

/-- Settles O18: the check of `SV` fails, and the version check before it concerns `XKEY` and `XEKS` only. -/
theorem invalidCipherStateRaisesState : Obligations.InvalidCipherStateRaisesState := by
  intro i s hi hr hsv hversion
  simp only [List.mem_cons, List.not_mem_nil, or_false] at hi
  have raises (hreads : readsCipher i = true) (hv : (readsKey i && s.versionReserved) = false) :=
    exec_raises hr (precheck_of_sv_false (s := s.newDraw) hreads hv hsv)
  rcases hi with rfl | rfl | rfl | rfl | rfl
  · exact raises rfl (hversion (by decide))
  · exact raises rfl rfl
  · exact raises rfl (hversion (by decide))
  · exact raises rfl rfl
  · exact raises rfl rfl

section keyLength

variable {i : Instr} {s : State}

/-- After the version and state checks a command that reads the key refuses an empty one (60_exceptions R203, R211 order
7). -/
theorem precheck_of_keylen_zero (hi : readsKey i = true) (hv : s.versionReserved = false)
    (hsv : (readsCipher i && !s.sv) = false) (h : s.keylen.toNat = 0) :
    precheck i s = some ⟨.validation, 1#8, 0#16⟩ := by
  have hempty : s.keylen = 0#8 := BitVec.eq_of_toNat_eq h
  simp [precheck, hi, hv, hsv, hempty]

/-- A key that is not empty it refuses for being over 72 bytes (60_exceptions R204, R211 order 8). -/
theorem precheck_of_keylen_long (hi : readsKey i = true) (hv : s.versionReserved = false)
    (hsv : (readsCipher i && !s.sv) = false) (h : 73 ≤ s.keylen.toNat) :
    precheck i s = some ⟨.length, 1#8, s.keylen.setWidth 16⟩ := by
  have hne : s.keylen ≠ 0#8 := fun e => by simp [e] at h
  have hlong : 72#8 < s.keylen := by simpa [BitVec.lt_def, Nat.succ_le_iff] using h
  simp [precheck, hi, hv, hsv, hne, hlong]

/-- `ERR_VALIDATION` is reported of an empty key only, to a command that reads the key, with subcode 1 (60_exceptions
R203). -/
theorem keylen_of_precheck_validation {r : ErrorReport} (h : precheck i s = some r)
    (hcode : r.code = .validation) : readsKey i = true ∧ s.keylen = 0#8 ∧ r.subcode = 1#8 := by
  unfold precheck at h
  split_ifs at h with _ _ hempty
  case neg =>
    obtain ⟨_, _, rfl⟩ := Option.map_eq_some_iff.mp h
    cases hcode
  · cases h; cases hcode
  · cases h; cases hcode
  · cases h
    obtain ⟨hreads, hzero⟩ := Bool.and_eq_true_iff.mp hempty
    exact ⟨hreads, of_decide_eq_true hzero, rfl⟩
  all_goals cases h; cases hcode

/-- The commands that read the key are `XKEY`, `XEKS` and `DERIVE` (30_encoding R83 (c)). -/
theorem mem_of_readsKey (h : readsKey i = true) : i ∈ [Instr.xkey, .xeks, .derive] := by
  cases i with
  | xkey | xeks | derive => decide
  | _ => cases h

end keyLength

/-- Settles O19: the two checks of the key length, and the only report with `ERR_VALIDATION`. -/
theorem badKeyLengthRaises : Obligations.BadKeyLengthRaises := by
  refine ⟨fun i s hi hr hv hsv => ?_, fun i s t hr h he => ?_⟩
  · have hreads := readsKey_of_mem hi
    have hstate : (readsCipher i && !s.sv) = false := by
      by_cases hd : i = .derive
      · subst hd; rfl
      · simp [hsv hd]
    split_ifs with h0 h73
    · exact exec_raises hr (precheck_of_keylen_zero (s := s.newDraw) hreads hv hstate h0)
    · exact exec_raises hr (precheck_of_keylen_long (s := s.newDraw) hreads hv hstate h73)
    · exact ⟨hv, by omega, by omega⟩
  · obtain ⟨r, hp, rfl⟩ := raised_of_exec hr h (by rw [he]; decide)
    obtain ⟨hreads, hempty, hsub⟩ := keylen_of_precheck_validation hp he
    have hkeylen : s.keylen = 0#8 := hempty
    exact ⟨mem_of_readsKey hreads, by rw [hkeylen]; rfl, (errinfoWord_subcode ..).trans hsub⟩

/-- The cost check of `DERIVE`, once the key is usable (60_exceptions R201, R211 order 9). -/
theorem precheck_derive_of_badCost {s : State} (hk : s.KeyUsable) (hc : s.costOutOfRange = true) :
    precheck .derive s = some ⟨.config, 1#8, s.cost.setWidth 16⟩ := by
  have hne : s.keylen ≠ 0#8 := fun e => by have := hk.not_empty; simp [e] at this
  have hlong : ¬ 72#8 < s.keylen := by simpa [BitVec.lt_def] using hk.not_long
  simp [precheck, readsKey, readsCipher, hk.version, hne, hlong, hc]

/-- Settles O20: the cost check fails, and the checks before it are those of a usable key. -/
theorem badCostRaisesConfig : Obligations.BadCostRaisesConfig := by
  intro s hr hk hcost
  have hc : s.newDraw.costOutOfRange = true := by simpa [State.costOutOfRange, BitVec.lt_def] using hcost
  exact exec_raises hr (precheck_derive_of_badCost hk.newDraw hc)

/-! ## The checks of the buffer lengths -/

/-- `R64DEC` refuses more symbols than the buffer holds, before it looks at any (60_exceptions R206, R211 order 10). -/
theorem precheck_r64dec_of_long {s : State} (h : 64 < s.symlen.toNat) :
    precheck .r64dec s = some ⟨.capacity, 2#8, s.symlen.setWidth 16⟩ := by
  have hlong : 64#8 < s.symlen := by simpa [BitVec.lt_def] using h
  simp [precheck, readsKey, readsCipher, hlong]

/-- Settles O21: each command's capacity check is its first. -/
theorem overCapacityRaisesCapacity : Obligations.OverCapacityRaisesCapacity :=
  fun _ hr => ⟨fun h => exec_raises hr (precheck_r64enc_of_long h), fun h => exec_raises hr (precheck_r64dec_of_long h)⟩

end Sys2Proof.Machine
